-- ==== Sys2Proof/Word.lean ====
section
/-! DEFINITION. The value types of the block: its words, its channels, its slots. -/

namespace Sys2Proof

/-- A duty value or the ramp counter: 8 bits, unsigned (R11, R21). -/
abbrev Byte := BitVec 8

/-- A command word (R60). -/
abbrev CommandWord := BitVec 16

/-- An observability record (R69). -/
abbrev Record := BitVec 32

/-- The 9-bit value operand of `set_duty` (R61): `0..511`, of which `0..255` is in range. -/
abbrev Value := BitVec 9

/-- A channel id, the 2-bit index of the channel space (R41); id 3 names no channel. -/
abbrev ChanId := BitVec 2

/-- A slot of the micro-program, `0..8`: the values `PH` takes (R15). -/
abbrev Slot := Fin 9

/-- The three channels (R42). -/
inductive Channel
  | red
  | green
  | blue
deriving DecidableEq, Repr, Inhabited

/-- One entry for each channel: the form of the per-channel register files
`CFG`, `STAGE`, `LATCH` and `ACTIVE` (R19, R21, R22, R23). -/
structure PerChannel (α : Type) where
  red   : α
  green : α
  blue  : α
deriving DecidableEq, Repr

end Sys2Proof
end

