-- ==== Sys2Proof/Syntax.lean ====
section
/-! DEFINITION. The nine operations (R63), the assembler's lines and pseudo-operations
(R67, R68), and the moves of the agents (R26, R100). -/

namespace Sys2Proof

/-- The nine operations, one constructor for each row of the opcode map (R63). -/
inductive Instr
  /-- `CFGT` = `configure_timer` (R80). -/
  | cfgt
  /-- `CFGC ch` = `configure_channel` (R81). -/
  | cfgc (ch : ChanId)
  /-- `INIT` = `initialize` (R82). -/
  | init
  /-- `SETD ch, val` = `set_duty` with an explicit value (R92). -/
  | setd (ch : ChanId) (val : Value)
  /-- `SETM ch` = `set_duty` with the multiplied value (R93). -/
  | setm (ch : ChanId)
  /-- `CMT ch` = `commit` (R94). -/
  | cmt (ch : ChanId)
  /-- `LOG`, step 5 of the tick (R101). -/
  | log
  /-- `ADV`, step 6 of the tick (R102). -/
  | adv
  /-- `WAIT`, step 7 of the tick (R103). -/
  | wait
deriving DecidableEq, Repr, Inhabited

/-- The mnemonics an assembler line may begin with: the nine of R63 and the three
pseudo-operations of R68. -/
inductive Mnemonic
  | cfgt | cfgc | init | setd | setm | cmt | log | adv | wait
  | tick | apply | boot
deriving DecidableEq, Repr

/-- An operand as it is written (R67): a channel's name, or a numeral. -/
inductive Operand
  | name (c : Channel)
  | numeral (n : Nat)
deriving DecidableEq, Repr

/-- An assembler line: a mnemonic, then its operands (R67). -/
structure SourceLine where
  mnemonic : Mnemonic
  operands : List Operand
deriving DecidableEq, Repr

/-- A move of one agent, the unit the model steps by. `RESET`, `tick_due` and `pwm_boundary`
are the events of R26; a turn of the host or of the sequencer carries the draw of `reject`
its operation consults. -/
inductive Move
  /-- The host issues a command word on the host port (R65). -/
  | host (word : CommandWord) (reject : Bool)
  /-- The sequencer takes its turn: one micro-operation, where it has a step (R100). -/
  | sequencer (reject : Bool)
  /-- The scheduler's delay timer raises `tick_due` (R26 b). -/
  | tickDue
  /-- The shared PWM timer raises `pwm_boundary` (R26 c). -/
  | pwmBoundary
  /-- The host raises `RESET` (R26 a). -/
  | reset
deriving DecidableEq, Repr, Inhabited

end Sys2Proof
end

