-- ==== Sys2Proof/WellFormed.lean ====
section
/-! DEFINITION. What an assembler line must satisfy to stand for operations (R67). An `Instr`
itself needs no check: its operands have exactly the widths of the fields that encode them. -/

namespace Sys2Proof

/-- Why an assembler line stands for nothing. -/
inductive LineError
  /-- The mnemonic takes another number of operands. -/
  | operandCount
  /-- The channel operand is no channel's name and no numeral `0..3`. -/
  | channelOperand
  /-- The value operand is no numeral `0..511`. -/
  | valueOperand
deriving DecidableEq, Repr

/-- The operands a mnemonic takes (R63, R68). -/
inductive OperandShape
  | none
  | channel
  | channelAndValue
deriving DecidableEq, Repr

/-- The operand shape of each mnemonic (R63, R68): formats N, C, V. -/
def Mnemonic.shape : Mnemonic → OperandShape
  | .cfgt | .init | .log | .adv | .wait | .tick | .boot => .none
  | .cfgc | .setm | .cmt | .apply => .channel
  | .setd => .channelAndValue

/-- "A channel operand is written `RED`, `GREEN`, `BLUE`, or a numeral `0..3`" (R67). -/
def Operand.isChannel : Operand → Bool
  | .name _    => true
  | .numeral n => decide (n ≤ 3)

/-- "A value operand is a decimal or `0x` numeral `0..511`" (R67). -/
def Operand.isValue : Operand → Bool
  | .name _    => false
  | .numeral n => decide (n ≤ 511)

/-- The first thing wrong with a line, if any (R67). -/
def SourceLine.error (l : SourceLine) : Option LineError :=
  match l.mnemonic.shape, l.operands with
  | .none, [] => none
  | .channel, [c] => if c.isChannel then none else some .channelOperand
  | .channelAndValue, [c, v] =>
    if c.isChannel then (if v.isValue then none else some .valueOperand)
    else some .channelOperand
  | _, _ => some .operandCount

/-- A line that stands for operations. -/
def SourceLine.wellFormed (l : SourceLine) : Bool := l.error.isNone

end Sys2Proof
end

