-- ==== Sys2Proof/Decode.lean ====
section
/-! DEFINITION. Decoding a command word (R60 to R64, R72), the encoder, the opcode map as a table
(R63), the byte form of a word (R43), and the assembler (R67, R68). -/

namespace Sys2Proof

/-! ### Fields (R61) -/

/-- `OP = W[15:12]`. -/
def opField (w : CommandWord) : BitVec 4 := w.extractLsb' 12 4

/-- `CH = W[11:10]`. -/
def chField (w : CommandWord) : ChanId := w.extractLsb' 10 2

/-- `Z = W[9]`. -/
def zField (w : CommandWord) : BitVec 1 := w.extractLsb' 9 1

/-- `VAL = W[8:0]`, not sign-extended, not scaled, not shifted (R62). -/
def valField (w : CommandWord) : Value := w.extractLsb' 0 9

/-- `W[9:0]`, which must be 0 in format C (R60). -/
def low10 (w : CommandWord) : BitVec 10 := w.extractLsb' 0 10

/-- `W[11:0]`, which must be 0 in format N (R60). -/
def low12 (w : CommandWord) : BitVec 12 := w.extractLsb' 0 12

/-! ### Decoding -/

/-- Why a word is reserved (R64). -/
inductive Reserved
  /-- `OP` in `{0x0, 0xA..0xF}`. -/
  | opcode
  /-- A format-N word with any of `W[11:0]` set. -/
  | formatN
  /-- A format-C word with any of `W[9:0]` set. -/
  | formatC
  /-- A format-V word with `Z = 1`. -/
  | formatV
deriving DecidableEq, Repr

/-- A format-N word (R60): no operand. -/
def decodeN (w : CommandWord) (i : Instr) : Except Reserved Instr :=
  if low12 w = 0 then .ok i else .error .formatN

/-- A format-C word (R60): a channel. -/
def decodeC (w : CommandWord) (i : ChanId → Instr) : Except Reserved Instr :=
  if low10 w = 0 then .ok (i (chField w)) else .error .formatC

/-- A format-V word (R60): a channel and a value. -/
def decodeV (w : CommandWord) (i : ChanId → Value → Instr) : Except Reserved Instr :=
  if zField w = 0 then .ok (i (chField w) (valField w)) else .error .formatV

/-- The decode procedure, total on all 65536 words (R72). -/
def decode (w : CommandWord) : Except Reserved Instr :=
  if opField w = 0x1 then decodeN w .cfgt
  else if opField w = 0x2 then decodeC w .cfgc
  else if opField w = 0x3 then decodeN w .init
  else if opField w = 0x4 then decodeV w .setd
  else if opField w = 0x5 then decodeC w .setm
  else if opField w = 0x6 then decodeC w .cmt
  else if opField w = 0x7 then decodeN w .log
  else if opField w = 0x8 then decodeN w .adv
  else if opField w = 0x9 then decodeN w .wait
  else .error .opcode

/-! ### Encoding -/

/-- `ch << 10` in a word (R72). -/
def chBits (ch : ChanId) : CommandWord := ch.setWidth 16 <<< 10

/-- The word of an operation (R72). -/
def encode : Instr → CommandWord
  | .cfgt        => 0x1000
  | .cfgc ch     => 0x2000 ||| chBits ch
  | .init        => 0x3000
  | .setd ch val => 0x4000 ||| chBits ch ||| val.setWidth 16
  | .setm ch     => 0x5000 ||| chBits ch
  | .cmt ch      => 0x6000 ||| chBits ch
  | .log         => 0x7000
  | .adv         => 0x8000
  | .wait        => 0x9000

/-! ### The opcode map (R63) -/

/-- A row of the opcode map. -/
structure OpcodeRow where
  mnemonic : String
  pattern  : CommandWord
  mask     : CommandWord
deriving DecidableEq, Repr

/-- "`W` encodes it when `(W & mask) == match`" (R63). -/
abbrev OpcodeRow.encodes (r : OpcodeRow) (w : CommandWord) : Prop := w &&& r.mask = r.pattern

/-- The row of an operation in the opcode map (R63). -/
def Instr.row : Instr → OpcodeRow
  | .cfgt     => ⟨"CFGT", 0x1000, 0xFFFF⟩
  | .cfgc _   => ⟨"CFGC", 0x2000, 0xF3FF⟩
  | .init     => ⟨"INIT", 0x3000, 0xFFFF⟩
  | .setd _ _ => ⟨"SETD", 0x4000, 0xF200⟩
  | .setm _   => ⟨"SETM", 0x5000, 0xF3FF⟩
  | .cmt _    => ⟨"CMT", 0x6000, 0xF3FF⟩
  | .log      => ⟨"LOG", 0x7000, 0xFFFF⟩
  | .adv      => ⟨"ADV", 0x8000, 0xFFFF⟩
  | .wait     => ⟨"WAIT", 0x9000, 0xFFFF⟩

/-- The nine rows (R63). -/
def opcodeTable : List OpcodeRow :=
  [Instr.row .cfgt, Instr.row (.cfgc 0), Instr.row .init, Instr.row (.setd 0 0), Instr.row (.setm 0),
   Instr.row (.cmt 0), Instr.row .log, Instr.row .adv, Instr.row .wait]

/-! ### Words as bytes and as numbers -/

/-- A command word read from a byte stream, "the most significant byte goes first" (R43; log
entry 12), with the bytes that follow it. -/
def decodeBytes : List Byte → Option (Except Reserved Instr × List Byte)
  | hi :: lo :: rest => some (decode (hi ++ lo), rest)
  | _                => none

/-- The bytes of an operation's word (R43). -/
def encodeBytes (i : Instr) : List Byte := [(encode i).extractLsb' 8 8, (encode i).extractLsb' 0 8]

/-- The command word of a number of `nbits` bits, every bit above them 0; none where the number is
wider than a command word. -/
def tableWord (nbits w : Nat) : Option CommandWord :=
  if w % 2 ^ nbits < 2 ^ 16 then some (BitVec.ofNat 16 (w % 2 ^ nbits)) else none

/-- The operation the decoder reads from a word numbered as the opcode table numbers it. -/
def decodeTableWord (nbits w : Nat) : Option Instr :=
  (tableWord nbits w).bind fun cw => (decode cw).toOption

/-! ### The assembler (R67, R68) -/

/-- The numeric id of a channel (R42). -/
def Channel.id : Channel → ChanId
  | .red   => 0
  | .green => 1
  | .blue  => 2

/-- The channel id an operand denotes (R67). -/
def Operand.chanId : Operand → ChanId
  | .name c    => c.id
  | .numeral n => BitVec.ofNat 2 n

/-- The 9-bit value an operand denotes (R67). -/
def Operand.value : Operand → Value
  | .name _    => 0
  | .numeral n => BitVec.ofNat 9 n

/-- `TICK` expands to the nine operations of the micro-program in slot order (R66, R68). -/
def tickOps : List Instr :=
  [.setm 0, .cmt 0, .setm 1, .cmt 1, .setm 2, .cmt 2, .log, .adv, .wait]

/-- `APPLY ch` expands to `SETM ch` then `CMT ch` (R68). -/
def applyOps (ch : ChanId) : List Instr := [.setm ch, .cmt ch]

/-- `BOOT` expands to the boot sequence (R68, R142). -/
def bootOps : List Instr := [.cfgt, .cfgc 0, .cfgc 1, .cfgc 2, .init]

/-- The operations a line stands for; none for a line that is not well formed. -/
def SourceLine.assemble (l : SourceLine) : Option (List Instr) :=
  if l.wellFormed then
    match l.mnemonic, l.operands with
    | .cfgt, _      => some [.cfgt]
    | .cfgc, [c]    => some [.cfgc c.chanId]
    | .init, _      => some [.init]
    | .setd, [c, v] => some [.setd c.chanId v.value]
    | .setm, [c]    => some [.setm c.chanId]
    | .cmt, [c]     => some [.cmt c.chanId]
    | .log, _       => some [.log]
    | .adv, _       => some [.adv]
    | .wait, _      => some [.wait]
    | .tick, _      => some tickOps
    | .apply, [c]   => some (applyOps c.chanId)
    | .boot, _      => some bootOps
    | _, _          => none
  else none

/-- The line an operation is written as, its operands as numerals (R67). -/
def Instr.source : Instr → SourceLine
  | .cfgt        => ⟨.cfgt, []⟩
  | .cfgc ch     => ⟨.cfgc, [.numeral ch.toNat]⟩
  | .init        => ⟨.init, []⟩
  | .setd ch val => ⟨.setd, [.numeral ch.toNat, .numeral val.toNat]⟩
  | .setm ch     => ⟨.setm, [.numeral ch.toNat]⟩
  | .cmt ch      => ⟨.cmt, [.numeral ch.toNat]⟩
  | .log         => ⟨.log, []⟩
  | .adv         => ⟨.adv, []⟩
  | .wait        => ⟨.wait, []⟩

/-! ### Reading a line's text (R67; log entry 10 says what the rule leaves open) -/

/-- A mnemonic as it is written. -/
def Mnemonic.text : Mnemonic → String
  | .cfgt => "CFGT" | .cfgc => "CFGC" | .init => "INIT" | .setd => "SETD"
  | .setm => "SETM" | .cmt => "CMT" | .log => "LOG" | .adv => "ADV" | .wait => "WAIT"
  | .tick => "TICK" | .apply => "APPLY" | .boot => "BOOT"

/-- A channel's name as it is written. -/
def Channel.text : Channel → String
  | .red => "RED" | .green => "GREEN" | .blue => "BLUE"

/-- Every mnemonic. -/
def Mnemonic.all : List Mnemonic :=
  [.cfgt, .cfgc, .init, .setd, .setm, .cmt, .log, .adv, .wait, .tick, .apply, .boot]

/-- A digit's value in a base of at most 16. -/
def digitValue (base : Nat) (c : Char) : Option Nat :=
  let v :=
    if '0' ≤ c ∧ c ≤ '9' then c.toNat - '0'.toNat
    else if 'a' ≤ c ∧ c ≤ 'f' then c.toNat - 'a'.toNat + 10
    else if 'A' ≤ c ∧ c ≤ 'F' then c.toNat - 'A'.toNat + 10
    else base
  if v < base then some v else none

/-- The number a non-empty list of digits denotes. -/
def digitsValue (base : Nat) (cs : List Char) : Option Nat :=
  if cs = [] then none
  else cs.foldl (fun acc c => acc.bind fun n => (digitValue base c).map (n * base + ·)) (some 0)

/-- A decimal or `0x` numeral. -/
def parseNumeral : List Char → Option Nat
  | '0' :: 'x' :: cs => digitsValue 16 cs
  | cs               => digitsValue 10 cs

/-- A list of characters without the spaces at its two ends. -/
def trimSpaces (cs : List Char) : List Char :=
  (((cs.dropWhile (· = ' ')).reverse).dropWhile (· = ' ')).reverse

/-- The parts of a list of characters between its commas. -/
def splitCommas : List Char → List (List Char)
  | []      => [[]]
  | c :: cs =>
    match splitCommas cs with
    | []            => [[]]
    | part :: parts => if c = ',' then [] :: part :: parts else (c :: part) :: parts

/-- An operand's text. -/
def parseOperand (cs : List Char) : Option Operand :=
  match [Channel.red, .green, .blue].find? (fun c => decide (c.text.toList = cs)) with
  | some c => some (.name c)
  | none   => (parseNumeral cs).map .numeral

/-- A line's text: the mnemonic, then operands separated by commas (R67). -/
def parseLine (text : String) : Option SourceLine :=
  let cs := trimSpaces text.toList
  let rest := trimSpaces (cs.dropWhile (· ≠ ' '))
  let operands := if rest = [] then [] else (splitCommas rest).map trimSpaces
  (Mnemonic.all.find? fun m => decide (m.text.toList = cs.takeWhile (· ≠ ' '))).bind fun m =>
    (operands.mapM parseOperand).map (SourceLine.mk m)

end Sys2Proof
end

