-- ==== Sys2Proof/Config.lean ====
section
/-! DEFINITION. The parameters whose values the source fixes (R5), and the free values: constants
with no body, of which nothing can be proved but their type. -/

namespace Sys2Proof.Config

/-- `STEP` of this hardware: the counter's increment for each tick (R5, R12), the value of
`State.stepSize` at reset. -/
def step : Byte := 5

/-- `CNT_LIMIT`: the counter wraps when the incremented value exceeds it (R5). -/
def cntLimit : Nat := 255

/-- `K[c]`: the multiplier of a channel (R5). -/
def multiplier : Channel → Nat
  | .red   => 2
  | .green => 1
  | .blue  => 3

/-- `MODULUS` of every duty computation (R5). -/
def modulus : Nat := 256

/-- `NCH`: the number of channels (R5). -/
def channelCount : Nat := 3

/-- `DUTY_BITS`: the channels' resolution (R5, R18). -/
def dutyBits : Nat := 8

/-- `PWM_FREQ_HZ`: the carrier of the shared timer (R5, R18). -/
def pwmFrequencyHz : Nat := 5000

/-- The mode argument of `configure_timer` (R5, R18); what it changes is not said (N8). -/
inductive TimerMode
  | lowSpeed
deriving DecidableEq, Repr

/-- `TIMER_MODE` (R5, R18). -/
def timerMode : TimerMode := .lowSpeed

/-- `PIN[c]`: the output pin of a channel (R5, R20, R42). -/
def pin : Channel → Nat
  | .red   => 25
  | .green => 26
  | .blue  => 27

/-- `INITIAL_DUTY`: the duty of a channel after `configure_channel` (R5, R20). -/
def initialDuty : Byte := 0

/-- `HPOINT` argument of `configure_channel` (R5, R20); it affects no rule. -/
def hpoint : Nat := 0

/-- `TICK_PERIOD_MS`: the end-of-tick delay (R5, R152); the model has no time (R154). -/
def tickPeriodMs : Nat := 100

/-- `DELAY_RAW`: the reference's raw delay constant (R5, R148); used by no rule. -/
def delayRaw : Nat := 50

/-- FREE VALUE: what a register that `RESET` leaves unspecified holds (R27, R28): "a model must
not choose 0 or any other number for it". The argument numbers the draws. DESIGN CHOICE, log
entries 2 and 3. -/
opaque unspecified : Nat → Byte

/-- FREE VALUE: the move made where the schedule lists none (R50: "A model quantifies over every
such schedule"). The argument numbers the draws. DESIGN CHOICE, log entry 1. -/
opaque freeMove : Nat → Move

end Sys2Proof.Config
end

