-- ==== Sys2Proof/Machine/State.lean ====
section
/-! DEFINITION. The machine's state: what R10 calls "the complete state of the block", and beside it
the model's own fields, which hold the inputs of R26 and the record of calls of R133. -/

namespace Sys2Proof.Machine

/-- `MODE` (R16): 0, 1, 2 by R71; value 3 never occurs. -/
inductive Mode
  /-- Before `INIT`. -/
  | off
  /-- The loop runs. -/
  | run
  /-- The loop was terminated by a fault. -/
  | halt
deriving DecidableEq, Repr

/-- Who issues an operation (R65). -/
inductive Issuer
  | host
  | sequencer
deriving DecidableEq, Repr

/-- The causes of `HardwareFault` (R121). -/
inductive Cause
  /-- 1: `ch == 3` or `CFG[ch] == 0`. -/
  | unconfigured
  /-- 2: `val > 255`. -/
  | range
  /-- 3: the peripheral rejects the operation. -/
  | reject
deriving DecidableEq, Repr

/-- `FAULT.slot` (R17): "the value of `PH` when the sequencer faulted, or 15 when a host-issued
operation faulted". -/
inductive FaultSlot
  | slot (ph : Slot)
  | hostPort
deriving DecidableEq, Repr

/-- The fault record while `FAULT.valid = 1` (R17). -/
structure FaultRecord where
  cause : Cause
  ch    : ChanId
  slot  : FaultSlot
deriving DecidableEq, Repr

/-- One call of the latch interface with its result (R133, R136): who issued it, the operation, the
value handed to `set_duty` where there is one, and the cause where the call failed. -/
structure LatchCall where
  issuer : Issuer
  op     : Instr
  value  : Option Value
  result : Option Cause
deriving DecidableEq, Repr

/-- The parameters of the step relation (R26, R65) for the operation being performed. -/
structure Turn where
  /-- Who issues the operation. -/
  issuer  : Issuer
  /-- The draw `reject` of this operation (R26 d). -/
  reject  : Bool
  /-- `tick_due` has occurred (R26 b). -/
  tickDue : Bool
deriving DecidableEq, Repr

/-- The state. The first ten fields are the spec's (R10); the last five are the model's own. -/
structure State where
  /-- `CNT`, the ramp counter (R11). -/
  cnt    : Byte
  /-- `PH`, the phase register (R15). -/
  ph     : Slot
  /-- `MODE` (R16). -/
  mode   : Mode
  /-- `FAULT` (R17); none is `FAULT.valid = 0` with the other fields 0. -/
  fault  : Option FaultRecord
  /-- `TCFG` (R18). -/
  tcfg   : Bool
  /-- `CFG[c]` (R19). -/
  cfg    : PerChannel Bool
  /-- `STAGE[c]` (R21). -/
  stage  : PerChannel Byte
  /-- `LATCH[c]` (R22). -/
  latch  : PerChannel Byte
  /-- `ACTIVE[c]` (R23). -/
  active : PerChannel Byte
  /-- `LOGQ`, oldest record first (R24). -/
  logq   : List Record
  /-- The model's own: the parameters of the operation being performed (log entry 5). -/
  turn     : Turn
  /-- The model's own: the agents' coming moves, the next one first (log entry 1). -/
  schedule : List Move
  /-- The model's own: how many free values have been taken (log entry 3). -/
  drawn    : Nat
  /-- The model's own: the latch calls since `RESET`, oldest first (log entry 6). -/
  calls    : List LatchCall
  /-- The model's own: `STEP`, the configuration field of R12, in `1..255`; no operation and no event
  writes it (log entry 9). -/
  stepSize : Byte
deriving DecidableEq, Repr

/-- The reasons the machine stops with a fault: there are none. The one exception of the hardware,
`HardwareFault`, is taken (R123, R136) and leads to a next state; a stuck sequencer is a state in
which its turns do nothing (R100). No constructor, so nothing raises one: safe (log entry 16). -/
inductive Fault
deriving DecidableEq, Repr

/-- The reasons for a refusal (R135: "this spec gives the operation no meaning in the present
state"). Each is safe: the run ends where the spec gives it no meaning. -/
inductive Refusal
  /-- Raised by `exec` for an instruction without a meaning: by none. Safe. -/
  | notModelled (mnemonic : String)
  /-- Raised by a turn whose word is reserved (R64). Safe. -/
  | reservedWord
  /-- Raised by an operation that its issuer may not issue (R65). Safe. -/
  | wrongIssuer
  /-- Raised by an operation in a `MODE` that does not admit it (R65, R82). Safe. -/
  | wrongMode
  /-- Raised by a second `CFGT` (R80). Safe. -/
  | timerAlreadyConfigured
  /-- Raised by `CFGC 3` (R81). Safe. -/
  | noSuchChannel
  /-- Raised by a `CFGC` before `CFGT` (R81). Safe. -/
  | timerNotConfigured
  /-- Raised by a second `CFGC` of a channel (R81). Safe. -/
  | channelAlreadyConfigured
deriving DecidableEq, Repr

/-- What performing an operation or a step answers. -/
abbrev Result := Host.Outcome State Fault Refusal

/-- Three free bytes, numbered from `n` (R27). -/
def unspecifiedTriple (n : Nat) : PerChannel Byte :=
  ⟨Config.unspecified n, Config.unspecified (n + 1), Config.unspecified (n + 2)⟩

/-- The machine after power-on: "a `RESET` with `LOGQ` empty" (R27, R140). `CNT` and the nine duty
registers hold free values (log entry 2). -/
def State.reset : State where
  cnt    := Config.unspecified 0
  ph     := 0
  mode   := .off
  fault  := none
  tcfg   := false
  cfg    := ⟨false, false, false⟩
  stage  := unspecifiedTriple 1
  latch  := unspecifiedTriple 4
  active := unspecifiedTriple 7
  logq   := []
  turn     := ⟨.host, false, false⟩
  schedule := []
  drawn    := 10
  calls    := []
  stepSize := Config.step

end Sys2Proof.Machine
end

