-- ==== Sys2Proof/Machine/Operands.lean ====
section
/-! DEFINITION. Operands: the channel an id names, the range check and truncation of a value, and
the duty function with its hardware forms. -/

namespace Sys2Proof.Machine

/-- The channel an id names: `0 = RED`, `1 = GREEN`, `2 = BLUE`, `3` = no channel (R42, R61). -/
def channelOf (id : ChanId) : Option Channel :=
  if id = 0 then some .red
  else if id = 1 then some .green
  else if id = 2 then some .blue
  else none

/-- The entry of a register file for a channel (R41). -/
def entry {α : Type} (file : PerChannel α) : Channel → α
  | .red   => file.red
  | .green => file.green
  | .blue  => file.blue

/-- A register file with one entry written (R41, R45). -/
def setEntry {α : Type} (file : PerChannel α) (c : Channel) (v : α) : PerChannel α :=
  match c with
  | .red   => { file with red := v }
  | .green => { file with green := v }
  | .blue  => { file with blue := v }

/-- The range check: `val > 255`, unsigned, strict (R91, R109 d). -/
def outOfRange (val : Value) : Bool := decide (255 < val.toNat)

/-- `val[7:0]` (R62, R92). -/
def valueByte (val : Value) : Byte := val.extractLsb' 0 8

/-- `zext_9(v)` of a byte (R93). -/
def byteValue (v : Byte) : Value := v.setWidth 9

/-- The duty function with the multiplier as an argument: `(K * n) mod 256` (R90). -/
def multiplyMod (k : Nat) (n : Byte) : Byte := BitVec.ofNat 8 (k * n.toNat % Config.modulus)

/-- `duty(c, n)` (R90). -/
def duty (c : Channel) (n : Byte) : Byte := multiplyMod (Config.multiplier c) n

/-- `{n[6:0], 0}`: `2n mod 256` as a shift (R90, R110). -/
def doubled (n : Byte) : Byte := n.extractLsb' 0 7 ++ (0 : BitVec 1)

/-- The hardware forms of the duty function: a shift, the byte itself, a shift and an 8-bit add
(R90, R110). -/
def dutyHardware (c : Channel) (n : Byte) : Byte :=
  match c with
  | .red   => doubled n
  | .green => n
  | .blue  => doubled n + n

/-- The three duty signals `RV`, `GV`, `BV` (R14). -/
def dutyTriple (n : Byte) : PerChannel Byte := ⟨duty .red n, duty .green n, duty .blue n⟩

/-- The observability record `{counter, red, green, blue}` (R69). -/
def recordOf (n : Byte) : Record := n ++ duty .red n ++ duty .green n ++ duty .blue n

/-- `REC[31:24]` (R69). -/
def recordCounter (r : Record) : Byte := r.extractLsb' 24 8

/-- `REC[23:16]` (R69). -/
def recordRed (r : Record) : Byte := r.extractLsb' 16 8

/-- `REC[15:8]` (R69). -/
def recordGreen (r : Record) : Byte := r.extractLsb' 8 8

/-- `REC[7:0]` (R69). -/
def recordBlue (r : Record) : Byte := r.extractLsb' 0 8

/-- The bytes of a record, "the most significant byte goes first" (R43; log entry 12). -/
def recordBytes (r : Record) : List Byte :=
  [recordCounter r, recordRed r, recordGreen r, recordBlue r]

/-- A record read from a byte stream (R43), with the bytes that follow it. -/
def readRecord : List Byte → Option (Record × List Byte)
  | counter :: red :: green :: blue :: rest => some (counter ++ red ++ green ++ blue, rest)
  | _ => none

/-- The text form of a record (R70): each field as an unsigned decimal numeral. -/
def recordLine (r : Record) : String :=
  "Increment: " ++ toString (recordCounter r).toNat ++ ", Duty Cycle (R, G, B): "
    ++ toString (recordRed r).toNat ++ ", " ++ toString (recordGreen r).toNat ++ ", "
    ++ toString (recordBlue r).toNat

end Sys2Proof.Machine
end

