-- ==== Sys2Proof/Machine/Flags.lean ====
section
/-! DEFINITION. The counter's sum and wrap test, and the status words. The block has no arithmetic
flag (R109); its status is `MODE`, `PH` and `FAULT` (R71). -/

namespace Sys2Proof.Machine

/-- `SUM = zext_9(CNT) + zext_9(STEP)`, 9 bits (R13). -/
def sum (step cnt : Byte) : BitVec 9 := cnt.setWidth 9 + step.setWidth 9

/-- `SUM > 255`, unsigned, strict, on the incremented value (R102, R147). -/
def sumExceeds (step cnt : Byte) : Bool := decide (Config.cntLimit < (sum step cnt).toNat)

/-- The counter after `ADV`: 0 after a wrap, else `SUM[7:0]` (R102). -/
def advance (step cnt : Byte) : Byte :=
  if sumExceeds step cnt then 0 else (sum step cnt).extractLsb' 0 8

/-- The period of the counter in ticks, `P = floor(255 / STEP) + 1` (R107). -/
def period (step : Byte) : Nat := Config.cntLimit / step.toNat + 1

/-- `PH` after a completed micro-operation: `(PH == 8) ? 0 : PH + 1` (R100, R105). -/
def nextSlot (ph : Slot) : Slot := if ph = 8 then 0 else ph + 1

/-- `MODE` as its 2 bits (R71). -/
def modeBits : Mode → BitVec 2
  | .off  => 0
  | .run  => 1
  | .halt => 2

/-- `PH` as its 4 bits (R71). -/
def phBits (ph : Slot) : BitVec 4 := BitVec.ofNat 4 ph.val

/-- `FAULT.cause` as its 2 bits (R71). -/
def causeBits : Cause → BitVec 2
  | .unconfigured => 1
  | .range        => 2
  | .reject       => 3

/-- `FAULT.slot` as its 4 bits (R71). -/
def slotBits : FaultSlot → BitVec 4
  | .slot ph  => phBits ph
  | .hostPort => 15

/-- `FAULT` as its 9 bits `{valid, cause, ch, slot}` (R71). -/
def faultBits : Option FaultRecord → BitVec 9
  | none   => 0
  | some r => (1 : BitVec 1) ++ causeBits r.cause ++ r.ch ++ slotBits r.slot

/-- What the host observes of the block: "observe `MODE`, `FAULT`, `LOGQ`, `ACTIVE`" (R156). -/
structure Outputs where
  mode   : BitVec 2
  fault  : BitVec 9
  logq   : List Record
  active : PerChannel Byte
deriving DecidableEq, Repr

/-- The block's outputs (R133, R156). -/
def outputs (s : State) : Outputs := ⟨modeBits s.mode, faultBits s.fault, s.logq, s.active⟩

end Sys2Proof.Machine
end

