-- ==== Sys2Proof/Machine/Ops.lean ====
section
/-! DEFINITION. The operations the meanings share: writes to one register each, the admission test,
the latch check, and taking `HardwareFault`. -/

namespace Sys2Proof.Machine

/-! ### One register each -/

/-- `CNT <- v`. -/
def setCnt (v : Byte) (s : State) : State := { s with cnt := v }

/-- `PH <- v`. -/
def setPh (v : Slot) (s : State) : State := { s with ph := v }

/-- `MODE <- v`. -/
def setMode (v : Mode) (s : State) : State := { s with mode := v }

/-- `TCFG <- v`. -/
def setTcfg (v : Bool) (s : State) : State := { s with tcfg := v }

/-- `CFG[c] <- v`. -/
def setCfg (c : Channel) (v : Bool) (s : State) : State := { s with cfg := setEntry s.cfg c v }

/-- `STAGE[c] <- v`. -/
def setStage (c : Channel) (v : Byte) (s : State) : State := { s with stage := setEntry s.stage c v }

/-- `LATCH[c] <- v`. -/
def setLatch (c : Channel) (v : Byte) (s : State) : State := { s with latch := setEntry s.latch c v }

/-- `ACTIVE[c] <- v`. -/
def setActive (c : Channel) (v : Byte) (s : State) : State :=
  { s with active := setEntry s.active c v }

/-- `emit(r)`: append a record to `LOGQ` (R24). -/
def emit (r : Record) (s : State) : State := { s with logq := s.logq ++ [r] }

/-- Append a latch call to the record of calls (R133). -/
def recordCall (c : LatchCall) (s : State) : State := { s with calls := s.calls ++ [c] }

/-- `FAULT` is written "only while `FAULT.valid = 0`: the first fault wins" (R17). -/
def recordFault (r : FaultRecord) (s : State) : State :=
  { s with fault := match s.fault with
                    | none     => some r
                    | some old => some old }

/-! ### Admission (R65) -/

/-- An operation of the host port: refused from another issuer and outside `MODE = OFF`. -/
def hostOnly (s : State) (perform : Result) : Result :=
  if s.turn.issuer ≠ .host then .refused .wrongIssuer
  else if s.mode ≠ .off then .refused .wrongMode
  else perform

/-- An operation of the sequencer: refused from another issuer and outside `MODE = RUN`. -/
def sequencerOnly (s : State) (perform : Result) : Result :=
  if s.turn.issuer ≠ .sequencer then .refused .wrongIssuer
  else if s.mode ≠ .run then .refused .wrongMode
  else perform

/-- An operation of either: the host while `MODE = OFF`, the sequencer while `MODE = RUN` (R94). -/
def hostOrSequencer (s : State) (perform : Result) : Result :=
  match s.turn.issuer with
  | .host      => hostOnly s perform
  | .sequencer => sequencerOnly s perform

/-- Completion: a micro-operation of the sequencer advances `PH` (R100); "a host-issued `SETD` or
`CMT` does not touch `PH`" (R30). -/
def complete (s : State) : State :=
  match s.turn.issuer with
  | .sequencer => setPh (nextSlot s.ph) s
  | .host      => s

/-! ### `HardwareFault` -/

/-- What a latch operation asks of the peripheral: `SET` with its value, or `COMMIT` (R91). -/
inductive LatchRequest
  | set (val : Value)
  | commit
deriving DecidableEq, Repr

/-- `kind == SET and val > 255` (R91). -/
def requestOutOfRange : LatchRequest → Bool
  | .set val => outOfRange val
  | .commit  => false

/-- `latch_check` (R91): the first of the three causes that holds, in the order `UNCONFIGURED`,
`RANGE`, `REJECT` (R122); else the channel whose entry the operation reaches. -/
def latchCheck (req : LatchRequest) (ch : ChanId) (s : State) : Except Cause Channel :=
  match channelOf ch with
  | none   => .error .unconfigured
  | some c =>
    if entry s.cfg c = false then .error .unconfigured
    else if requestOutOfRange req then .error .range
    else if s.turn.reject then .error .reject
    else .ok c

/-- `FAULT.slot` of a fault taken now (R17). -/
def faultSlot (s : State) : FaultSlot :=
  match s.turn.issuer with
  | .sequencer => .slot s.ph
  | .host      => .hostPort

/-- TAKING `HardwareFault`: `raise HardwareFault(cause, ch)`. The record is written if it is empty;
a fault of the sequencer sets `MODE <- HALT` and leaves `PH` (R123); a fault of a host-issued
operation leaves `MODE = OFF` (R136). There is no return from it (R125). -/
def raiseHardwareFault (cause : Cause) (ch : ChanId) (s : State) : State :=
  let s' := recordFault ⟨cause, ch, faultSlot s⟩ s
  match s.turn.issuer with
  | .sequencer => setMode .halt s'
  | .host      => s'

/-- The value a request hands to `set_duty`. -/
def requestValue : LatchRequest → Option Value
  | .set val => some val
  | .commit  => none

/-- A latch operation that fails: the call and its failure are recorded (R133, R136) and the fault
is taken; "the faulting operation writes nothing" (R123). -/
def failLatch (op : Instr) (value : Option Value) (ch : ChanId) (cause : Cause) (s : State) : State :=
  raiseHardwareFault cause ch (recordCall ⟨s.turn.issuer, op, value, some cause⟩ s)

/-- A latch operation: the check, then either its fault or its write to the channel's entry and its
completion (R91 to R94). -/
def latchOperation (op : Instr) (req : LatchRequest) (ch : ChanId)
    (write : Channel → State → State) (s : State) : State :=
  match latchCheck req ch s with
  | .error cause => failLatch op (requestValue req) ch cause s
  | .ok c        =>
    complete (write c (recordCall ⟨s.turn.issuer, op, requestValue req, none⟩ s))

end Sys2Proof.Machine
end

