-- ==== Sys2Proof/Machine/Boot.lean ====
section
/-! DEFINITION. The boot operations `CFGT`, `CFGC`, `INIT` (R80 to R82). -/

namespace Sys2Proof.Machine

/-- `CFGT`: configure the shared timer (R80). -/
def execCfgt (s : State) : Result :=
  hostOnly s <|
    if s.tcfg then .refused .timerAlreadyConfigured
    else .next (setTcfg true s)

/-- A channel's registers as `configure_channel` leaves them (R81). -/
def configureChannel (c : Channel) (s : State) : State :=
  setActive c Config.initialDuty <| setLatch c Config.initialDuty <|
    setStage c Config.initialDuty <| setCfg c true s

/-- `CFGC ch`: configure one channel (R81). -/
def execCfgc (ch : ChanId) (s : State) : Result :=
  hostOnly s <|
    match channelOf ch with
    | none   => .refused .noSuchChannel
    | some c =>
      if s.tcfg = false then .refused .timerNotConfigured
      else if entry s.cfg c then .refused .channelAlreadyConfigured
      else .next (configureChannel c s)

/-- `INIT`: create the ramp state and start the loop (R82). -/
def execInit (s : State) : Result :=
  hostOnly s (.next (setMode .run (setPh 0 (setCnt 0 s))))

end Sys2Proof.Machine
end

