-- ==== Sys2Proof/Machine/Latch.lean ====
section
/-! DEFINITION. The operations on the three-channel output latch, `SETD`, `SETM`, `CMT`
(R92 to R94). -/

namespace Sys2Proof.Machine

/-- `SETD ch, val`: stage an explicit duty value (R92). -/
def execSetd (ch : ChanId) (val : Value) (s : State) : Result :=
  hostOnly s <| .next <|
    latchOperation (.setd ch val) (.set val) ch (fun c => setStage c (valueByte val)) s

/-- `SETM ch`: stage the multiplied duty of the channel (R93). Id 3 faults before `duty` is
evaluated, so its call has no value. -/
def execSetm (ch : ChanId) (s : State) : Result :=
  sequencerOnly s <| .next <|
    match channelOf ch with
    | none   => failLatch (.setm ch) none ch .unconfigured s
    | some c =>
      latchOperation (.setm ch) (.set (byteValue (duty c s.cnt))) ch
        (fun c => setStage c (duty c s.cnt)) s

/-- `CMT ch`: latch the staged duty of the channel (R94). -/
def execCmt (ch : ChanId) (s : State) : Result :=
  hostOrSequencer s <| .next <|
    latchOperation (.cmt ch) .commit ch (fun c => setLatch c (entry s.stage c)) s

end Sys2Proof.Machine
end

