-- ==== Sys2Proof/Machine/Sequencer.lean ====
section
/-! DEFINITION. The micro-operations that are not latch operations: `LOG`, `ADV`, `WAIT`
(R101 to R103). -/

namespace Sys2Proof.Machine

/-- `LOG`: emit the observability record of the counter before the advance (R101). -/
def execLog (s : State) : Result :=
  sequencerOnly s (.next (complete (emit (recordOf s.cnt) s)))

/-- `ADV`: advance the counter by `STEP` and wrap (R102). -/
def execAdv (s : State) : Result :=
  sequencerOnly s (.next (complete (setCnt (advance s.stepSize s.cnt) s)))

/-- `WAIT`: yield until the next tick is due (R103). Until `tick_due` has occurred the operation is
held: nothing changes (log entry 7). -/
def execWait (s : State) : Result :=
  sequencerOnly s (.next (if s.turn.tickDue then complete s else s))

end Sys2Proof.Machine
end

