-- ==== Sys2Proof/Machine/Dispatch.lean ====
section
/-! DEFINITION. The meaning of each operation. -/

namespace Sys2Proof.Machine

def exec (i : Instr) (s : State) : Host.Outcome State Fault Refusal :=
  match i with
  -- the boot operations (R80 to R82)
  | .cfgt => Sys2Proof.Machine.execCfgt s
  | .cfgc ch => Sys2Proof.Machine.execCfgc ch s
  | .init => Sys2Proof.Machine.execInit s
  -- the latch operations (R92 to R94)
  | .setd ch val => Sys2Proof.Machine.execSetd ch val s
  | .setm ch => Sys2Proof.Machine.execSetm ch s
  | .cmt ch => Sys2Proof.Machine.execCmt ch s
  -- the sequencer's own (R101 to R103)
  | .log => Sys2Proof.Machine.execLog s
  | .adv => Sys2Proof.Machine.execAdv s
  | .wait => Sys2Proof.Machine.execWait s

end Sys2Proof.Machine
end

