-- ==== Sys2Proof/Machine/Agents.lean ====
section
/-! DEFINITION. The agents and their moves: the sequencer and its micro-program, the host port, the
events `tick_due`, `pwm_boundary` and `RESET`. -/

namespace Sys2Proof.Machine

/-! ### The micro-program -/

/-- `ROM`: nine words, constant (R25, R66). -/
def rom : Slot → CommandWord
  | 0 => 0x5000
  | 1 => 0x6000
  | 2 => 0x5400
  | 3 => 0x6400
  | 4 => 0x5800
  | 5 => 0x6800
  | 6 => 0x7000
  | 7 => 0x8000
  | 8 => 0x9000

/-- The slots in order. -/
def slots : List Slot := [0, 1, 2, 3, 4, 5, 6, 7, 8]

/-! ### Performing a word -/

/-- The state in which an operation is performed: the issuer and the inputs it consults. -/
def beginTurn (t : Turn) (s : State) : State := { s with turn := t }

/-- Perform a command word; a reserved word is refused (R64, R135). -/
def performWord (w : CommandWord) (s : State) : Result :=
  match decode w with
  | .ok i    => exec i s
  | .error _ => .refused .reservedWord

/-- The sequencer's step: fetch `ROM[PH]`, decode it, perform it (R100). Where it has no step its
turn changes nothing (log entry 4). -/
def sequencerTurn (reject tickDue : Bool) (s : State) : Result :=
  match s.mode with
  | .run => performWord (rom s.ph) (beginTurn ⟨.sequencer, reject, tickDue⟩ s)
  | _    => .next s

/-- The host issues a word (R65). -/
def hostTurn (w : CommandWord) (reject : Bool) (s : State) : Result :=
  performWord w (beginTurn ⟨.host, reject, false⟩ s)

/-! ### Events -/

/-- `tick_due`: it ends the `WAIT` the sequencer is in; at any other time it is dropped
(R103, R127). -/
def tickDueEvent (s : State) : Result :=
  if s.mode = .run ∧ s.ph = 8 then sequencerTurn false true s else .next s

/-- `ACTIVE[c]` after a boundary: `LATCH[c]` where the channel is configured (R95). -/
def boundaryEntry (s : State) (c : Channel) : Byte :=
  if entry s.cfg c then entry s.latch c else entry s.active c

/-- `pwm_boundary`: every configured channel's latched duty takes effect, in one step; enabled
while `TCFG = 1` (R95). -/
def pwmBoundaryEvent (s : State) : State :=
  if s.tcfg then
    { s with active := ⟨boundaryEntry s .red, boundaryEntry s .green, boundaryEntry s .blue⟩ }
  else s

/-- `RESET` (R140). `CNT`, `STAGE`, `LATCH`, `ACTIVE` become unspecified: free values, drawn afresh
(log entry 3); `LOGQ` is unchanged. The record of calls starts anew (log entry 6). -/
def resetEvent (s : State) : State :=
  { s with
    cnt    := Config.unspecified s.drawn
    ph     := 0
    mode   := .off
    fault  := none
    tcfg   := false
    cfg    := ⟨false, false, false⟩
    stage  := unspecifiedTriple (s.drawn + 1)
    latch  := unspecifiedTriple (s.drawn + 4)
    active := unspecifiedTriple (s.drawn + 7)
    drawn  := s.drawn + 10
    calls  := [] }

/-! ### Moves -/

/-- One move of one agent; each is indivisible (R45, R50). -/
def performMove (m : Move) (s : State) : Result :=
  match m with
  | .host w reject    => hostTurn w reject s
  | .sequencer reject => sequencerTurn reject false s
  | .tickDue          => tickDueEvent s
  | .pwmBoundary      => .next (pwmBoundaryEvent s)
  | .reset            => .next (resetEvent s)

/-- The next move and the state without it: the first of the schedule, or a free move where the
schedule is empty (R50; log entry 1). -/
def takeMove (s : State) : Move × State :=
  match s.schedule with
  | m :: rest => (m, { s with schedule := rest })
  | []        => (Config.freeMove s.drawn, { s with drawn := s.drawn + 1 })

/-- A state with a move put before the scheduled ones. -/
def scheduleFirst (m : Move) (s : State) : State := { s with schedule := m :: s.schedule }

/-! ### Placing a word to be performed next (log entry 8) -/

/-- A word the host port never admits (R65): one of `SETM`, `LOG`, `ADV`, `WAIT`; and `CMT` while
the sequencer runs. -/
def sequencersWord (w : CommandWord) (s : State) : Bool :=
  match decode w with
  | .ok (.setm _) | .ok .log | .ok .adv | .ok .wait => true
  | .ok (.cmt _) => decide (s.mode = .run)
  | _ => false

/-- The state whose next step performs a word. A word of the micro-program that is the sequencer's
is performed from its slot of `ROM` while `MODE = RUN`, with `tick_due` where the slot is the
wait; any other word is issued on the host port. -/
def placeWord (w : CommandWord) (s : State) : State :=
  match (if sequencersWord w s then slots.find? (fun p => decide (rom p = w)) else none) with
  | some p =>
    scheduleFirst (if p = 8 then .tickDue else .sequencer false) (setMode .run (setPh p s))
  | none => scheduleFirst (.host w false) s

end Sys2Proof.Machine
end

