-- ==== Sys2Proof/Machine/Step.lean ====
section
/-! DEFINITION. One step of the machine: one move of one agent. -/

namespace Sys2Proof.Machine

/-- One step: take the next move and perform it. -/
def step (s : State) : Host.Outcome State Fault Refusal :=
  performMove (takeMove s).1 (takeMove s).2

/-- The state whose next step performs the word of `nbits` bits `w` (log entry 8). -/
def State.withFetchWord (s : State) (nbits w : Nat) : State :=
  match tableWord nbits w with
  | some cw => placeWord cw s
  | none    => s

end Sys2Proof.Machine
end

