-- ==== Sys2Proof/Safety.lean ====
section
/-! DEFINITION. The terms claims use: when an operation is admitted, the invariants of R29, the
schedules of a tick and the premises on them, and the tick as one step (R104). -/

namespace Sys2Proof.Safety

open Sys2Proof.Machine

/-! ### Admission -/

/-- When an operation has a meaning: its issuer and `MODE` (R65), and for the boot operations the
preconditions of R80, R81, R82. Every other case is refused (R135). -/
def Admitted (i : Instr) (s : State) : Prop :=
  match i with
  | .cfgt     => s.turn.issuer = .host ∧ s.mode = .off ∧ s.tcfg = false
  | .cfgc ch  => s.turn.issuer = .host ∧ s.mode = .off ∧ s.tcfg = true ∧
                   ∃ c, channelOf ch = some c ∧ entry s.cfg c = false
  | .init     => s.turn.issuer = .host ∧ s.mode = .off
  | .setd _ _ => s.turn.issuer = .host ∧ s.mode = .off
  | .cmt _    => (s.turn.issuer = .host ∧ s.mode = .off) ∨
                   (s.turn.issuer = .sequencer ∧ s.mode = .run)
  | .setm _ | .log | .adv | .wait => s.turn.issuer = .sequencer ∧ s.mode = .run

/-- The operations that may raise `HardwareFault` (R120). -/
def IsLatchOperation : Instr → Prop
  | .setd _ _ | .setm _ | .cmt _ => True
  | _ => False

/-- A refusal, under whichever name. -/
def IsRefused : Result → Prop
  | .refused _ => True
  | _          => False

/-! ### Faults -/

/-- When a cause is the one `HardwareFault` is raised with, of a latch operation on id `ch` whose
value is out of range where `bad` says so: the first of `UNCONFIGURED`, `RANGE`, `REJECT` that
holds (R91, R122). -/
def IsFirstCause (cause : Cause) (bad : Prop) (ch : ChanId) (s : State) : Prop :=
  match cause with
  | .unconfigured => ∀ c, channelOf ch = some c → entry s.cfg c = false
  | .range        => (∃ c, channelOf ch = some c ∧ entry s.cfg c = true) ∧ bad
  | .reject       => (∃ c, channelOf ch = some c ∧ entry s.cfg c = true) ∧ ¬ bad ∧
                       s.turn.reject = true

/-- `FAULT` after a fault: the record it held, or else the new one: "the first fault wins" (R17). -/
def firstFault (old : Option FaultRecord) (r : FaultRecord) : Option FaultRecord :=
  match old with
  | none   => some r
  | some f => some f

/-- The latch calls of the sequencer that failed since `RESET`. -/
def SequencerFaulted (s : State) : Prop :=
  ∃ c ∈ s.calls, c.issuer = .sequencer ∧ c.result ≠ none

/-- The channel operand of an operation (R60). -/
def channelOperand : Instr → ChanId
  | .cfgc ch | .setd ch _ | .setm ch | .cmt ch => ch
  | .cfgt | .init | .log | .adv | .wait => 0

/-- The cause and the channel operand of the first latch call that failed. -/
def firstFailure : List LatchCall → Option (Cause × ChanId)
  | []      => none
  | c :: cs =>
    match c.result with
    | some cause => some (cause, channelOperand c.op)
    | none       => firstFailure cs

/-- Only the host has called the latch interface since `RESET`. -/
def OnlyHostCalls (s : State) : Prop := ∀ c ∈ s.calls, c.issuer = .host

/-! ### Invariants (R29) -/

/-- The latch holds the triple of the counter value before the last `ADV` (R29 f). -/
def Settled (s : State) : Prop :=
  ∃ n, s.logq.getLast? = some (recordOf n) ∧ s.cnt = advance s.stepSize n ∧
    s.stage = dutyTriple n ∧ s.latch = dutyTriple n

/-- The invariants of R29. Clauses (a) and (c) are the types of `cnt` and `ph`. -/
structure RunInvariant (s : State) : Prop where
  /-- `1 <= STEP <= 255` (R6, R12). -/
  step_positive : s.stepSize ≠ 0
  /-- (b), from `INIT` on. -/
  counter_multiple : s.mode ≠ .off → s.stepSize.toNat ∣ s.cnt.toNat
  /-- (b), from `INIT` on. -/
  counter_bounded : s.mode ≠ .off →
    s.cnt.toNat ≤ s.stepSize.toNat * (255 / s.stepSize.toNat)
  /-- (d): `MODE = HALT` if and only if a sequencer fault has been taken since `RESET`. -/
  halted_iff : s.mode = .halt ↔ SequencerFaulted s
  /-- (d): `MODE = HALT` implies `FAULT.valid = 1`. -/
  halted_valid : s.mode = .halt → s.fault ≠ none
  /-- (e). -/
  configured_timer : ∀ c, entry s.cfg c = true → s.tcfg = true
  /-- (f), the staged red. -/
  staged_red : s.mode = .run → 1 ≤ s.ph.val → s.ph.val ≤ 7 → s.stage.red = duty .red s.cnt
  /-- (f), the staged green. -/
  staged_green : s.mode = .run → 3 ≤ s.ph.val → s.ph.val ≤ 7 → s.stage.green = duty .green s.cnt
  /-- (f), the staged blue. -/
  staged_blue : s.mode = .run → 5 ≤ s.ph.val → s.ph.val ≤ 7 → s.stage.blue = duty .blue s.cnt
  /-- (f), the latched red. -/
  latched_red : s.mode = .run → 2 ≤ s.ph.val → s.ph.val ≤ 7 → s.latch.red = duty .red s.cnt
  /-- (f), the latched green. -/
  latched_green : s.mode = .run → 4 ≤ s.ph.val → s.ph.val ≤ 7 → s.latch.green = duty .green s.cnt
  /-- (f), the latched blue. -/
  latched_blue : s.mode = .run → 6 ≤ s.ph.val → s.ph.val ≤ 7 → s.latch.blue = duty .blue s.cnt
  /-- The record of the tick stands between `LOG` and `ADV` (R49). -/
  logged : s.mode = .run → s.ph.val = 7 → s.logq.getLast? = some (recordOf s.cnt)
  /-- (f), at `PH = 8`. -/
  settled_wait : s.mode = .run → s.ph.val = 8 → Settled s
  /-- (f), at `PH = 0`: the first tick after `INIT`, or a settled latch. -/
  settled_start : s.mode = .run → s.ph.val = 0 → OnlyHostCalls s ∨ Settled s
  /-- Before `INIT` the sequencer has made no call since `RESET`. -/
  off_host_calls : s.mode = .off → OnlyHostCalls s
  /-- (f): until the first latch call the channels hold what `CFGC` wrote. -/
  untouched : s.calls = [] → ∀ c, entry s.cfg c = true →
    entry s.stage c = 0 ∧ entry s.latch c = 0 ∧ entry s.active c = 0

/-- What `FAULT` says of the calls since `RESET` (R17, R121, R123). -/
structure FaultInvariant (s : State) : Prop where
  /-- "the first fault wins": the cause and the channel are those of the first failure (R17). -/
  first_failure : (s.fault.map fun f => (f.cause, f.ch)) = firstFailure s.calls
  /-- `RANGE` is unreachable from the micro-program (R121). -/
  range_from_host : ∀ f, s.fault = some f → f.cause = .range → f.slot = .hostPort
  /-- A recorded slot is the one the sequencer halted at, and it holds a latch operation
  (R15, R123, R124). -/
  slot_is_phase : ∀ f p, s.fault = some f → f.slot = .slot p →
    s.mode = .halt ∧ s.ph = p ∧ p.val ≤ 5

/-! ### Schedules -/

/-- `k` fault-free turns of the sequencer before the wait, with any boundaries, and any `tick_due`
that is dropped, among them (R50, R127). -/
def quietWork : Nat → List Move → Bool
  | 0, []                          => true
  | k + 1, .sequencer false :: ms  => quietWork k ms
  | k + 1, .tickDue :: ms          => quietWork (k + 1) ms
  | k, .pwmBoundary :: ms          => quietWork k ms
  | _, _                           => false

/-- A move that changes neither `PH` nor a duty but `ACTIVE` before slot 8: a boundary, or a
`tick_due`, which is dropped there (R50, R127). -/
def passingMove : Move → Bool
  | .pwmBoundary | .tickDue => true
  | _ => false

/-- A move that may fall inside a `WAIT`: a boundary, or a turn in which the sequencer is held. -/
def idleMove : Move → Bool
  | .pwmBoundary | .sequencer _ => true
  | _ => false

/-- The moves of one tick: those of its work, those of its wait, and the `tick_due` that ends it. -/
structure TickMoves where
  work : List Move
  wait : List Move
deriving DecidableEq, Repr

/-- The schedule of one tick. -/
def TickMoves.moves (t : TickMoves) : List Move := t.work ++ t.wait ++ [.tickDue]

/-- Every draw of `reject` is 0, the sequencer has its eight turns, and nothing else intervenes:
the premise "every draw of `reject` is 0" of R26 with the fairness premise of R103. -/
def TickMoves.quiet (t : TickMoves) : Bool := quietWork 8 t.work && t.wait.all idleMove

/-- The premise `BOUNDARY_PER_WAIT` for one tick (R51). -/
def TickMoves.boundaryInWait (t : TickMoves) : Bool := t.wait.contains .pwmBoundary

/-- The schedule of several ticks. -/
def tickSchedule (ts : List TickMoves) : List Move := ts.flatMap TickMoves.moves

/-- The moves of the boot sequence, with any draws (R142). -/
def bootMoves (rejects : PerChannel Bool) (r0 r4 : Bool) : List Move :=
  [.host 0x1000 r0, .host 0x2000 rejects.red, .host 0x2400 rejects.green,
   .host 0x2800 rejects.blue, .host 0x3000 r4]

/-! ### The tick as one step (R104) -/

/-- The latch calls of a fault-free tick at counter value `n` (R133). -/
def tickCalls (n : Byte) : List LatchCall :=
  [⟨.sequencer, .setm 0, some (byteValue (duty .red n)), none⟩, ⟨.sequencer, .cmt 0, none, none⟩,
   ⟨.sequencer, .setm 1, some (byteValue (duty .green n)), none⟩, ⟨.sequencer, .cmt 1, none, none⟩,
   ⟨.sequencer, .setm 2, some (byteValue (duty .blue n)), none⟩, ⟨.sequencer, .cmt 2, none, none⟩]

/-- `TICK` (R104): the state a fault-free tick ends in, `active` being the duties then in effect,
and `rest` the schedule after it. -/
def tick (active : PerChannel Byte) (rest : List Move) (s : State) : State :=
  { s with
    cnt      := if s.cnt.toNat + s.stepSize.toNat > 255 then 0 else s.cnt + s.stepSize
    stage    := dutyTriple s.cnt
    latch    := dutyTriple s.cnt
    active   := active
    logq     := s.logq ++ [recordOf s.cnt]
    calls    := s.calls ++ tickCalls s.cnt
    turn     := ⟨.sequencer, false, true⟩
    schedule := rest }

/-- A sequencer about to start a tick with every channel configured (R104). -/
structure TickStart (s : State) : Prop where
  running : s.mode = .run
  slot_zero : s.ph = 0
  timer : s.tcfg = true
  channels : s.cfg = ⟨true, true, true⟩

/-- The counter at slot 0 of tick `n`, in closed form (R107). -/
def counterAt (step : Byte) (n : Nat) : Byte := BitVec.ofNat 8 (step.toNat * (n % period step))

/-- The triple in effect when the first `p` channels show the new triple and the others the old one
(R146). -/
def mixedTriple (old new : PerChannel Byte) (p : Nat) : PerChannel Byte :=
  ⟨if 1 ≤ p then new.red else old.red, if 2 ≤ p then new.green else old.green,
   if 3 ≤ p then new.blue else old.blue⟩

/-! ### What one move may change -/

/-- A result with `ACTIVE` put out of sight: what nothing inside the block reads (R23, R30). -/
def hideActive : Result → Result
  | .next s    => .next { s with active := ⟨0, 0, 0⟩ }
  | .fault f   => .fault f
  | .refused r => .refused r

/-- A move of the host port whose word decodes to an operation. -/
def HostIssues (m : Move) (i : Instr) : Prop := ∃ w r, m = .host w r ∧ decode w = .ok i

end Sys2Proof.Safety
end

