-- ==== Sys2Proof/Certificates/Slice0/Obligations.lean ====
section
/-! DEFINITION. The statements for the provers. -/

open Sys2Proof Sys2Proof.Machine Sys2Proof.Safety

/-! ### Encoding -/

/-- Words of 30_encoding.md R63 and R66 decode to the operations they stand for. -/
def Obligations.SpecWordsDecode : Prop :=
  decode 0x1000 = .ok .cfgt ∧ decode 0x2400 = .ok (.cfgc 1) ∧ decode 0x3000 = .ok .init ∧
  decode 0x48C8 = .ok (.setd 2 200) ∧ decode 0x4900 = .ok (.setd 2 256) ∧
  decode 0x5800 = .ok (.setm 2) ∧ decode 0x6400 = .ok (.cmt 1) ∧ decode 0x7000 = .ok .log ∧
  decode 0x8000 = .ok .adv ∧ decode 0x9000 = .ok .wait ∧
  decode 0x0000 = .error .opcode ∧ decode 0x1001 = .error .formatN ∧
  decode 0x2200 = .error .formatC ∧ decode 0x4AC8 = .error .formatV

/-- R72: `decode(encode(x)) = x` for every operation, and a word that decodes is the encoding of
what it decodes to: no bit of a word is dropped. -/
def Obligations.DecodeEncodeAgree : Prop :=
  (∀ i, decode (encode i) = .ok i) ∧ (∀ w i, decode w = .ok i → encode i = w)

/-- R63, R64: a word decodes exactly when some row of the opcode map matches it, the operation
decoded is of that row, and at most one row matches any word. -/
def Obligations.DecodeFollowsOpcodeMap : Prop :=
  (∀ w, (∃ i, decode w = .ok i) ↔ ∃ r ∈ opcodeTable, r.encodes w) ∧
  (∀ w i, decode w = .ok i → i.row ∈ opcodeTable ∧ i.row.encodes w) ∧
  (∀ w, ∀ r ∈ opcodeTable, ∀ r' ∈ opcodeTable, r.encodes w → r'.encodes w → r = r')

/-- R43: a command word and an observability record, serialised most significant byte first, read
back with the bytes that follow them; the bytes of a word and of a record of the spec. -/
def Obligations.ByteFormReadsBack : Prop :=
  (∀ i rest, decodeBytes (encodeBytes i ++ rest) = some (.ok i, rest)) ∧
  (∀ r rest, readRecord (recordBytes r ++ rest) = some (r, rest)) ∧
  encodeBytes (.setd 2 200) = [0x48, 0xC8] ∧ recordBytes 0x1428143C = [0x14, 0x28, 0x14, 0x3C]

/-- R67, R68: every operation is written as a line that assembles to it, its channel as a numeral or
by name; a line assembles exactly when it is well formed; the lines `TICK`, `BOOT` and `APPLY`
assemble to the words of `ROM`, to the boot sequence, and to `SETM` then `CMT` of the channel. -/
def Obligations.AssemblerReadsBack : Prop :=
  (∀ i : Instr, i.source.assemble = some [i]) ∧
  (∀ l : SourceLine, l.assemble.isSome = l.wellFormed) ∧
  (SourceLine.mk .tick []).assemble.map (·.map encode) = some (slots.map rom) ∧
  (SourceLine.mk .boot []).assemble.map (·.map encode) =
    some [0x1000, 0x2000, 0x2400, 0x2800, 0x3000] ∧
  (∀ o : Operand, o.isChannel = true →
    (SourceLine.mk .apply [o]).assemble = some [.setm o.chanId, .cmt o.chanId]) ∧
  (∀ c : Channel, (SourceLine.mk .cfgc [.name c]).assemble = some [.cfgc c.id] ∧
    (SourceLine.mk .setm [.name c]).assemble = some [.setm c.id] ∧
    (SourceLine.mk .cmt [.name c]).assemble = some [.cmt c.id] ∧
    (SourceLine.mk .apply [.name c]).assemble = some [.setm c.id, .cmt c.id] ∧
    ∀ n, n ≤ 511 → (SourceLine.mk .setd [.name c, .numeral n]).assemble =
      some [.setd c.id (BitVec.ofNat 9 n)])

/-- R66: `ROM` holds the nine words, each decoding to the operation of its slot. -/
def Obligations.RomHoldsMicroProgram : Prop :=
  slots.map rom = [0x5000, 0x6000, 0x5400, 0x6400, 0x5800, 0x6800, 0x7000, 0x8000, 0x9000] ∧
  slots.map (fun p => decode (rom p)) =
    [.ok (.setm 0), .ok (.cmt 0), .ok (.setm 1), .ok (.cmt 1), .ok (.setm 2), .ok (.cmt 2),
     .ok .log, .ok .adv, .ok .wait]

/-! ### Operands and arithmetic -/

/-- R41, R42: ids 0, 1, 2 name RED, GREEN, BLUE and id 3 names none; a write to one channel's entry
is read back there and leaves the other entries. -/
def Obligations.ChannelSpace : Prop :=
  channelOf 0 = some .red ∧ channelOf 1 = some .green ∧ channelOf 2 = some .blue ∧
  channelOf 3 = none ∧ (∀ c : Channel, channelOf c.id = some c) ∧
  (∀ (f : PerChannel Byte) c c' v, entry (setEntry f c v) c' = if c' = c then v else entry f c') ∧
  (∀ (f : PerChannel Bool) c c' v, entry (setEntry f c v) c' = if c' = c then v else entry f c')

/-- R90, R110: the duty function on all 256 counter values, and its hardware forms. -/
def Obligations.DutyIsModularMultiply : Prop :=
  ∀ n : Byte, (duty .red n).toNat = 2 * n.toNat % 256 ∧ duty .green n = n ∧
    (duty .blue n).toNat = 3 * n.toNat % 256 ∧ (∀ c, dutyHardware c n = duty c n)

/-- R69: the fields of an observability record. -/
def Obligations.RecordFields : Prop :=
  ∀ n : Byte, recordCounter (recordOf n) = n ∧ recordRed (recordOf n) = duty .red n ∧
    recordGreen (recordOf n) = duty .green n ∧ recordBlue (recordOf n) = duty .blue n

/-- R71, R156: the status words: `MODE` and `PH` as numbers, the fields of `FAULT` for every record,
`0x000` where none is recorded, and the block's outputs. -/
def Obligations.StatusWords : Prop :=
  modeBits .off = 0 ∧ modeBits .run = 1 ∧ modeBits .halt = 2 ∧
  (∀ p : Slot, (phBits p).toNat = p.val) ∧ faultBits none = 0 ∧
  (∀ r : FaultRecord,
    (faultBits (some r)).getLsbD 8 = true ∧
    ((faultBits (some r)).extractLsb' 6 2).toNat =
      (match r.cause with
       | .unconfigured => 1
       | .range        => 2
       | .reject       => 3) ∧
    (faultBits (some r)).extractLsb' 4 2 = r.ch ∧
    ((faultBits (some r)).extractLsb' 0 4).toNat =
      (match r.slot with
       | .slot p   => p.val
       | .hostPort => 15)) ∧
  (∀ s : State, outputs s = ⟨modeBits s.mode, faultBits s.fault, s.logq, s.active⟩)

/-- R13, R102, R109, R110: the counter's step for every `STEP`: the 9-bit sum is exact and lies in
`1..510`, the wrap test is strict on the incremented value and is bit 8 of the sum, and a wrap gives
0. -/
def Obligations.CounterAdvance : Prop :=
  ∀ step cnt : Byte, sum step cnt = cnt.setWidth 9 + step.setWidth 9 ∧
    (sum step cnt).toNat = cnt.toNat + step.toNat ∧
    (step ≠ 0 → 1 ≤ (sum step cnt).toNat) ∧ (sum step cnt).toNat ≤ 510 ∧
    sumExceeds step cnt = (sum step cnt).getLsbD 8 ∧
    (advance step cnt).toNat =
      if cnt.toNat + step.toNat > 255 then 0 else cnt.toNat + step.toNat

/-- R107: the closed form of the counter for every `STEP` in `1..255`, its period as a ceiling, and
the period 52 of `STEP = 5`. -/
def Obligations.CounterClosedForm : Prop :=
  (∀ step : Byte, step ≠ 0 → ∀ n, (advance step)^[n] 0 = counterAt step n ∧
      (counterAt step n).toNat = step.toNat * (n % (255 / step.toNat + 1))) ∧
  (∀ step : Byte, step ≠ 0 → period step = (256 + step.toNat - 1) / step.toNat) ∧
  period Config.step = 52

/-! ### The boot operations -/

/-- R80: `CFGT` sets `TCFG` and nothing else, when issued by the host with `MODE = OFF` and
`TCFG = 0`; otherwise it is refused. -/
def Obligations.CfgtConfiguresTimer : Prop :=
  encode .cfgt = 0x1000 ∧ ∀ s,
  (s.turn.issuer = .host ∧ s.mode = .off ∧ s.tcfg = false →
    exec .cfgt s = .next { s with tcfg := true }) ∧
  (¬ (s.turn.issuer = .host ∧ s.mode = .off ∧ s.tcfg = false) → IsRefused (exec .cfgt s))

/-- R81: `CFGC ch` configures the channel and puts 0 in its three duty registers; otherwise it is
refused. -/
def Obligations.CfgcConfiguresChannel : Prop :=
  ∀ s ch, encode (.cfgc ch) = 0x2000 ||| (ch.setWidth 16 <<< 10) ∧
  (∀ c, channelOf ch = some c → s.turn.issuer = .host → s.mode = .off → s.tcfg = true →
    entry s.cfg c = false →
    exec (.cfgc ch) s = .next { s with
      cfg    := setEntry s.cfg c true
      stage  := setEntry s.stage c 0
      latch  := setEntry s.latch c 0
      active := setEntry s.active c 0 }) ∧
  (¬ (s.turn.issuer = .host ∧ s.mode = .off ∧ s.tcfg = true ∧
      ∃ c, channelOf ch = some c ∧ entry s.cfg c = false) → IsRefused (exec (.cfgc ch) s))

/-- R82: `INIT` sets `CNT` and `PH` to 0 and `MODE` to `RUN`, and nothing else (it does not clear
`FAULT`), when issued by the host with `MODE = OFF`; otherwise it is refused. -/
def Obligations.InitStartsLoop : Prop :=
  encode .init = 0x3000 ∧ ∀ s,
  (s.turn.issuer = .host ∧ s.mode = .off →
    exec .init s = .next { s with cnt := 0, ph := 0, mode := .run }) ∧
  (¬ (s.turn.issuer = .host ∧ s.mode = .off) → IsRefused (exec .init s))

/-! ### The latch operations -/

/-- R92: `SETD ch, val` stages `val[7:0]` and nothing else, and the call is recorded. -/
def Obligations.SetdStagesValue : Prop :=
  ∀ ch val c s, s.turn.issuer = .host → s.mode = .off → channelOf ch = some c →
    entry s.cfg c = true → val.toNat ≤ 255 → s.turn.reject = false →
    exec (.setd ch val) s = .next { s with
      stage := setEntry s.stage c (BitVec.ofNat 8 val.toNat)
      calls := s.calls ++ [⟨.host, .setd ch val, some val, none⟩] }

/-- R136: a fault of a host-issued `SETD` writes `FAULT` with slot 15 if no fault is recorded,
leaves `MODE` and every duty register, and is returned to the host (the call's recorded result). -/
def Obligations.SetdFaultTaken : Prop :=
  ∀ ch val cause s, s.turn.issuer = .host → s.mode = .off →
    IsFirstCause cause (255 < val.toNat) ch s →
    exec (.setd ch val) s = .next { s with
      fault := firstFault s.fault ⟨cause, ch, .hostPort⟩
      calls := s.calls ++ [⟨.host, .setd ch val, some val, some cause⟩] }

/-- R93: `SETM ch` stages `duty(ch, CNT)`, advances `PH`, and nothing else; the call is recorded. -/
def Obligations.SetmStagesDuty : Prop :=
  ∀ ch c s, s.turn.issuer = .sequencer → s.mode = .run → channelOf ch = some c →
    entry s.cfg c = true → s.turn.reject = false →
    exec (.setm ch) s = .next { s with
      stage := setEntry s.stage c (duty c s.cnt)
      ph    := nextSlot s.ph
      calls := s.calls ++
        [⟨.sequencer, .setm ch, some (byteValue (duty c s.cnt)), none⟩] }

/-- R93, R123: a fault of `SETM` writes `FAULT` with slot `PH` if no fault is recorded, halts, and
changes no other register; `RANGE` cannot occur; id 3 faults `UNCONFIGURED`. -/
def Obligations.SetmFaultTaken : Prop :=
  ∀ ch cause s, s.turn.issuer = .sequencer → s.mode = .run →
    IsFirstCause cause False ch s →
    exec (.setm ch) s = .next { s with
      mode  := .halt
      fault := firstFault s.fault ⟨cause, ch, .slot s.ph⟩
      calls := s.calls ++ [⟨.sequencer, .setm ch,
        (channelOf ch).map fun c => byteValue (duty c s.cnt), some cause⟩] }

/-- R94: `CMT ch` copies `STAGE[ch]` to `LATCH[ch]` and nothing else; from the sequencer it advances
`PH`, from the host it does not (R30). -/
def Obligations.CmtLatchesStage : Prop :=
  ∀ ch c s, channelOf ch = some c → entry s.cfg c = true → s.turn.reject = false →
    (s.turn.issuer = .sequencer → s.mode = .run →
      exec (.cmt ch) s = .next { s with
        latch := setEntry s.latch c (entry s.stage c)
        ph    := nextSlot s.ph
        calls := s.calls ++ [⟨.sequencer, .cmt ch, none, none⟩] }) ∧
    (s.turn.issuer = .host → s.mode = .off →
      exec (.cmt ch) s = .next { s with
        latch := setEntry s.latch c (entry s.stage c)
        calls := s.calls ++ [⟨.host, .cmt ch, none, none⟩] })

/-- R94, R123, R136: a fault of `CMT` writes `FAULT` if no fault is recorded and changes no duty
register; of the sequencer it halts, of the host it leaves `MODE`; never `RANGE`. -/
def Obligations.CmtFaultTaken : Prop :=
  ∀ ch cause s, IsFirstCause cause False ch s →
    (s.turn.issuer = .sequencer → s.mode = .run →
      exec (.cmt ch) s = .next { s with
        mode  := .halt
        fault := firstFault s.fault ⟨cause, ch, .slot s.ph⟩
        calls := s.calls ++ [⟨.sequencer, .cmt ch, none, some cause⟩] }) ∧
    (s.turn.issuer = .host → s.mode = .off →
      exec (.cmt ch) s = .next { s with
        fault := firstFault s.fault ⟨cause, ch, .hostPort⟩
        calls := s.calls ++ [⟨.host, .cmt ch, none, some cause⟩] })

/-- R91, R122: of every latch operation on every id exactly one holds: it reaches a configured
channel with no cause to fault, or one first cause holds; `UNCONFIGURED` comes before `RANGE`, and
`RANGE` before `REJECT`. -/
def Obligations.FaultCausesOrdered : Prop :=
  ∀ ch val s,
    (∀ c, latchCheck (.set val) ch s = .ok c ↔ channelOf ch = some c ∧ entry s.cfg c = true ∧
      val.toNat ≤ 255 ∧ s.turn.reject = false) ∧
    (∀ c, latchCheck .commit ch s = .ok c ↔ channelOf ch = some c ∧ entry s.cfg c = true ∧
      s.turn.reject = false) ∧
    (∀ cause, latchCheck (.set val) ch s = .error cause ↔
      IsFirstCause cause (255 < val.toNat) ch s) ∧
    (∀ cause, latchCheck .commit ch s = .error cause ↔ IsFirstCause cause False ch s)

/-! ### The sequencer's own operations -/

/-- R101: `LOG` appends `{CNT, duties}` to `LOGQ`, advances `PH`, and nothing else, when issued by
the sequencer with `MODE = RUN`; otherwise it is refused. The advance of `PH` is R100's, made in the
meaning (log entry 7). -/
def Obligations.LogEmitsRecord : Prop :=
  encode .log = 0x7000 ∧ rom 6 = encode .log ∧ ∀ s,
  (s.turn.issuer = .sequencer ∧ s.mode = .run →
    exec .log s = .next { s with
      logq := s.logq ++ [s.cnt ++ duty .red s.cnt ++ duty .green s.cnt ++ duty .blue s.cnt]
      ph   := nextSlot s.ph }) ∧
  (¬ (s.turn.issuer = .sequencer ∧ s.mode = .run) → IsRefused (exec .log s))

/-- R102: `ADV` adds `STEP`, whatever it is, to `CNT`, or sets it to 0 where the sum exceeds 255; it
advances `PH`, and nothing else, when issued by the sequencer with `MODE = RUN`; otherwise it is
refused. The advance of `PH` is R100's, made in the meaning (log entry 7). -/
def Obligations.AdvAdvancesCounter : Prop :=
  encode .adv = 0x8000 ∧ rom 7 = encode .adv ∧ ∀ s,
  (s.turn.issuer = .sequencer ∧ s.mode = .run →
    exec .adv s = .next { s with
      cnt := if s.cnt.toNat + s.stepSize.toNat > 255 then 0 else s.cnt + s.stepSize
      ph  := nextSlot s.ph }) ∧
  (¬ (s.turn.issuer = .sequencer ∧ s.mode = .run) → IsRefused (exec .adv s))

/-- R103: `WAIT` completes when `tick_due` has occurred, advancing `PH`, and changes nothing else;
until then it is held (that the held turn is a next state that changes nothing is the model's
choice, log entry 7). -/
def Obligations.WaitEndsOnTickDue : Prop :=
  ∀ s, s.turn.issuer = .sequencer → s.mode = .run →
    (s.turn.tickDue = true → exec .wait s = .next { s with ph := nextSlot s.ph }) ∧
    (s.turn.tickDue = false → exec .wait s = .next s)

/-! ### Admission and frames -/

/-- R65, R135: an operation is refused exactly when its issuer, `MODE` or precondition does not admit
it; every admitted operation has a next state. That a `WAIT` without `tick_due` is a next state is the
model's choice (log entry 7), and that a faulting latch operation is one is its rendering of the
fault entry (log entry 16). -/
def Obligations.RefusedUnlessAdmitted : Prop :=
  ∀ i s, (IsRefused (exec i s) ↔ ¬ Admitted i s) ∧ (Admitted i s → ∃ t, exec i s = .next t)

/-- R30: what the boot operations leave unchanged. -/
def Obligations.BootFrame : Prop :=
  ∀ s t, (exec .cfgt s = .next t → t = { s with tcfg := t.tcfg }) ∧
    (∀ ch, exec (.cfgc ch) s = .next t →
      t = { s with cfg := t.cfg, stage := t.stage, latch := t.latch, active := t.active } ∧
      ∀ c, channelOf ch ≠ some c → entry t.cfg c = entry s.cfg c ∧
        entry t.stage c = entry s.stage c ∧ entry t.latch c = entry s.latch c ∧
        entry t.active c = entry s.active c) ∧
    (exec .init s = .next t → t = { s with cnt := t.cnt, ph := t.ph, mode := t.mode })

/-- R30: what the latch operations leave unchanged, whether they complete or fault: `SETD` and `SETM`
may change only `STAGE` of their channel, `CMT` only `LATCH` of its channel; a host-issued one
touches neither `PH` nor `MODE`. -/
def Obligations.LatchFrame : Prop :=
  ∀ s t ch, (∀ val, exec (.setd ch val) s = .next t →
      t = { s with stage := t.stage, fault := t.fault, calls := t.calls } ∧
      ∀ c, channelOf ch ≠ some c → entry t.stage c = entry s.stage c) ∧
    (exec (.setm ch) s = .next t →
      t = { s with stage := t.stage, ph := t.ph, mode := t.mode, fault := t.fault,
                   calls := t.calls } ∧
      ∀ c, channelOf ch ≠ some c → entry t.stage c = entry s.stage c) ∧
    (exec (.cmt ch) s = .next t →
      t = { s with latch := t.latch, ph := t.ph, mode := t.mode, fault := t.fault,
                   calls := t.calls } ∧
      (∀ c, channelOf ch ≠ some c → entry t.latch c = entry s.latch c) ∧
      (s.turn.issuer = .host → t.ph = s.ph ∧ t.mode = s.mode))

/-- R30: what the sequencer's own operations leave unchanged. -/
def Obligations.SequencerFrame : Prop :=
  ∀ s t, (exec .log s = .next t → t = { s with logq := t.logq, ph := t.ph }) ∧
    (exec .adv s = .next t → t = { s with cnt := t.cnt, ph := t.ph }) ∧
    (exec .wait s = .next t → t = { s with ph := t.ph })

/-- R120: only `SETD`, `SETM` and `CMT` write `FAULT` or halt the sequencer. -/
def Obligations.OnlyLatchOperationsFault : Prop :=
  ∀ i s t, exec i s = .next t → (t.fault ≠ s.fault ∨ (t.mode = .halt ∧ s.mode ≠ .halt)) →
    IsLatchOperation i

/-! ### The step -/

/-- A step runs the decoded operation: a host word that decodes is performed on the host port
(R65), and the word of `ROM` at `PH` by the sequencer while `MODE = RUN` (R100). The move is the
first of the schedule (the model's form of the inputs, log entries 1 and 5). -/
def Obligations.StepRunsDecoded : Prop :=
  ∀ s rest r i,
    (∀ w, s.schedule = .host w r :: rest → decode w = .ok i →
      step s = exec i { s with schedule := rest, turn := ⟨.host, r, false⟩ }) ∧
    (s.schedule = .sequencer r :: rest → s.mode = .run → decode (rom s.ph) = .ok i →
      step s = exec i { s with schedule := rest, turn := ⟨.sequencer, r, false⟩ })

/-- R64, R135: a reserved word on the host port is refused, in every state. That the refusal names the
word as its reason where the port is closed too is the model's choice (log entry 11). -/
def Obligations.ReservedWordRefused : Prop :=
  ∀ s w r rest, s.schedule = .host w r :: rest → (∀ i, decode w ≠ .ok i) →
    step s = .refused .reservedWord

/-- R65: while `MODE` is `RUN` or `HALT` every host word is refused. -/
def Obligations.HostPortClosed : Prop :=
  ∀ s w r rest, s.schedule = .host w r :: rest → s.mode ≠ .off → IsRefused (step s)

/-- R65: `SETM`, `LOG`, `ADV` and `WAIT` arriving on the host port are refused in every mode. That the
refusal names the issuer as its reason where the port is closed too is the model's choice (log entry
11). -/
def Obligations.SequencerWordsRefusedOnHostPort : Prop :=
  ∀ s w r rest i, s.schedule = .host w r :: rest → decode w = .ok i →
    (i = .log ∨ i = .adv ∨ i = .wait ∨ ∃ ch, i = .setm ch) → step s = .refused .wrongIssuer

/-- R100: outside `MODE = RUN` the sequencer has no step: its turn changes nothing (that the turn is
a next state is the model's choice, log entry 4). -/
def Obligations.SequencerStuckOutsideRun : Prop :=
  ∀ s r rest, s.schedule = .sequencer r :: rest → s.mode ≠ .run →
    step s = .next { s with schedule := rest }

/-- R127: `tick_due` is consumed only by `WAIT`: in `RUN` at slot 8 it takes `PH` to 0 and changes
nothing else; at any other moment it is dropped. -/
def Obligations.TickDueOnlyEndsWait : Prop :=
  ∀ s rest, s.schedule = .tickDue :: rest →
    (s.mode = .run ∧ s.ph = 8 →
      step s = .next { s with ph := 0, schedule := rest, turn := ⟨.sequencer, false, true⟩ }) ∧
    (¬ (s.mode = .run ∧ s.ph = 8) → step s = .next { s with schedule := rest })

/-- R95: `pwm_boundary` copies `LATCH[c]` to `ACTIVE[c]` for every configured channel in one step
while `TCFG = 1`, and nothing else; it is never refused. That a boundary while `TCFG = 0` is a next
state that changes nothing is the model's choice (log entry 4). -/
def Obligations.BoundaryMakesLatchActive : Prop :=
  ∀ s rest, s.schedule = .pwmBoundary :: rest →
    ∃ a, step s = .next { s with active := a, schedule := rest } ∧
      (s.tcfg = false → a = s.active) ∧
      (s.tcfg = true → ∀ c, entry a c = if entry s.cfg c then entry s.latch c else entry s.active c)

/-- R140: `RESET`, in any state, clears `MODE`, `PH`, `TCFG`, `CFG` and `FAULT` and leaves `LOGQ`;
`CNT` and the nine duty registers take free values numbered afresh (log entry 3), and the record of
calls starts anew (log entry 6). -/
def Obligations.ResetClearsControl : Prop :=
  faultBits none = 0 ∧ ∀ s rest, s.schedule = .reset :: rest → step s = .next { s with
    cnt      := Config.unspecified s.drawn
    ph       := 0
    mode     := .off
    fault    := none
    tcfg     := false
    cfg      := ⟨false, false, false⟩
    stage    := unspecifiedTriple (s.drawn + 1)
    latch    := unspecifiedTriple (s.drawn + 4)
    active   := unspecifiedTriple (s.drawn + 7)
    drawn    := s.drawn + 10
    schedule := rest
    calls    := [] }

/-- R27, R140, R5: the state after power-on: the values of the table of R27, `LOGQ` empty, and `STEP`
the 5 of this hardware. -/
def Obligations.PowerOnState : Prop :=
  State.reset.mode = .off ∧ State.reset.ph = 0 ∧ State.reset.tcfg = false ∧
  (∀ c, entry State.reset.cfg c = false) ∧ faultBits State.reset.fault = 0 ∧
  State.reset.logq = [] ∧ State.reset.stepSize = 5

/-- R50: with no move listed the next one is free: the step is that of an unknown move (log entry
1). -/
def Obligations.UnlistedMoveIsFree : Prop :=
  ∀ s, s.schedule = [] →
    step s = step { s with schedule := [Config.freeMove s.drawn], drawn := s.drawn + 1 }

/-! ### Invariants -/

/-- The invariants of R29 hold at power-on. -/
def Obligations.PowerOnMeetsInvariants : Prop := RunInvariant State.reset ∧ FaultInvariant State.reset

/-- R29: every step keeps the invariants: the counter a multiple of `STEP`, `HALT` if and only if a
sequencer fault was taken, a configured channel only with a configured timer, and stage and latch
holding the duties of the counter as far as the tick has come. -/
def Obligations.StepKeepsInvariants : Prop :=
  ∀ s t, RunInvariant s → step s = .next t → RunInvariant t

/-- R17, R121, R123: every step keeps what `FAULT` says of the calls since `RESET`. -/
def Obligations.StepKeepsFaultRecordTrue : Prop :=
  ∀ s t, FaultInvariant s → step s = .next t → FaultInvariant t

/-! ### Whole-machine rules -/

/-- R128: how `MODE` is entered and left: `RESET` to `OFF`, `INIT` from `OFF` to `RUN`, fault entry
of the sequencer from `RUN` to `HALT`. -/
def Obligations.ModeTransitions : Prop :=
  ∀ s t, step s = .next t → t.mode = s.mode ∨
    ((takeMove s).1 = .reset ∧ t.mode = .off) ∨
    (HostIssues (takeMove s).1 .init ∧ s.mode = .off ∧ t.mode = .run) ∨
    ((∃ r, (takeMove s).1 = .sequencer r) ∧ s.mode = .run ∧ t.mode = .halt ∧ t.fault ≠ none ∧
      t.ph = s.ph)

/-- R125: `HALT` is left only by `RESET`, and in it no register but `ACTIVE` changes otherwise. -/
def Obligations.HaltLeftOnlyByReset : Prop :=
  ∀ s t, s.mode = .halt → step s = .next t → (takeMove s).1 ≠ .reset →
    t = { s with active := t.active, schedule := t.schedule, drawn := t.drawn }

/-- R17: the fault record is sticky until `RESET`. -/
def Obligations.FaultRecordSticky : Prop :=
  ∀ s t f, s.fault = some f → step s = .next t → (takeMove s).1 ≠ .reset → t.fault = some f

/-- R24, R149: `LOGQ` is append-only: a step leaves it, or the sequencer at slot 6 appends the record
of the counter. -/
def Obligations.LogAppendOnly : Prop :=
  ∀ s t, step s = .next t → t.logq = s.logq ∨
    ((∃ r, (takeMove s).1 = .sequencer r) ∧ s.mode = .run ∧ s.ph = 6 ∧
      t.logq = s.logq ++ [recordOf s.cnt])

/-- R11, R12: `CNT` is written by `INIT`, by `ADV` at slot 7, and by `RESET`, and by nothing else;
nothing writes `STEP`. -/
def Obligations.CounterWriters : Prop :=
  ∀ s t, step s = .next t → t.stepSize = s.stepSize ∧ (t.cnt ≠ s.cnt →
    (takeMove s).1 = .reset ∨ (HostIssues (takeMove s).1 .init ∧ s.mode = .off ∧ t.cnt = 0) ∨
    ((∃ r, (takeMove s).1 = .sequencer r) ∧ s.mode = .run ∧ s.ph = 7 ∧
      t.cnt = advance s.stepSize s.cnt))

/-- R105: `PH` advances by one slot and from 8 to 0, only in `RUN`; the only other writes are
`INIT`'s and `RESET`'s 0. -/
def Obligations.PhaseOrder : Prop :=
  ∀ s t, step s = .next t → t.ph = s.ph ∨ (s.mode = .run ∧ t.ph = nextSlot s.ph) ∨
    (t.ph = 0 ∧ ((takeMove s).1 = .reset ∨ HostIssues (takeMove s).1 .init))

/-- R53: during `MODE = RUN` only the sequencer writes `STAGE` and `LATCH`. -/
def Obligations.SingleWriterInRun : Prop :=
  ∀ s t, s.mode = .run → step s = .next t → (t.stage ≠ s.stage ∨ t.latch ≠ s.latch) →
    (takeMove s).1 = .reset ∨ ∃ r, (takeMove s).1 = .sequencer r

/-- R23, R144, R145: `ACTIVE` is written only by `pwm_boundary`, from `LATCH`, by `CFGC`, to 0, and
by `RESET`: neither a stage nor a commit reaches the output. -/
def Obligations.ActiveWriters : Prop :=
  ∀ s t c, step s = .next t → entry t.active c ≠ entry s.active c →
    (takeMove s).1 = .reset ∨
    ((takeMove s).1 = .pwmBoundary ∧ s.tcfg = true ∧ entry s.cfg c = true ∧
      entry t.active c = entry s.latch c) ∨
    (HostIssues (takeMove s).1 (.cfgc c.id) ∧ s.mode = .off ∧ entry t.active c = 0)

/-- R52: no staged value of a channel reaches `LATCH` but by a `CMT` of that channel. -/
def Obligations.CommitIsTheBarrier : Prop :=
  ∀ s t c, step s = .next t → entry t.latch c ≠ entry s.latch c →
    (takeMove s).1 = .reset ∨
    (HostIssues (takeMove s).1 (.cfgc c.id) ∧ entry t.latch c = 0) ∨
    ((HostIssues (takeMove s).1 (.cmt c.id) ∨
       ((∃ r, (takeMove s).1 = .sequencer r) ∧ decode (rom s.ph) = .ok (.cmt c.id))) ∧
      entry t.latch c = entry s.stage c)

/-- R23, R30: nothing inside the block reads `ACTIVE`: two runs that differ only there go on
differing only there. -/
def Obligations.ActiveNotRead : Prop :=
  ∀ s a, hideActive (step { s with active := a }) = hideActive (step s)

/-! ### Runs -/

/-- R142: the boot sequence, from any state with nothing configured and `MODE = OFF`, in five steps
and whatever the draws of `reject`. -/
def Obligations.BootSequence : Prop :=
  ∀ (s : State) rejects r0 r4 rest, s.mode = .off → s.tcfg = false → s.cfg = ⟨false, false, false⟩ →
    s.schedule = bootMoves rejects r0 r4 ++ rest →
    core.run 5 s = .next { s with
      mode := .run, ph := 0, cnt := 0, tcfg := true, cfg := ⟨true, true, true⟩
      stage := ⟨0, 0, 0⟩, latch := ⟨0, 0, 0⟩, active := ⟨0, 0, 0⟩
      turn := ⟨.host, r4, false⟩, schedule := rest }

/-- R104, R51: the micro-steps of a tick refine `TICK`: under every schedule with no rejected draw, in
which boundaries and dropped `tick_due` events fall anywhere, the nine micro-operations end in the
state `TICK` gives, whatever `STEP` is; and with `BOUNDARY_PER_WAIT` the triple is then in effect. The
turn and the record of calls in that state, and that `tick_due` ends the `WAIT` in one step, are the
model's form (log entries 5, 6 and 7). -/
def Obligations.MicroStepsRefineTick : Prop :=
  ∀ (s : State) (m : TickMoves) (rest : List Move), TickStart s → m.quiet = true →
    s.schedule = m.moves ++ rest →
    ∃ a, core.run m.moves.length s = .next (tick a rest s) ∧
      (m.boundaryInWait = true → a = dutyTriple s.cnt)

/-- R107, R108, R2: any number of fault-free ticks after `INIT`, for every `STEP` in `1..255`, under any
schedule of boundaries: the counter is `STEP * (n mod P)`, the records logged are those of the closed
form, and stage and latch hold the triple of the last tick. That each `tick_due` ends its `WAIT` in one
step is the model's form (log entry 7). -/
def Obligations.TicksGenerateClosedForm : Prop :=
  ∀ (s : State) (ms : List TickMoves) (rest : List Move), TickStart s → s.cnt = 0 →
    (∀ m ∈ ms, m.quiet = true) → s.schedule = tickSchedule ms ++ rest →
    s.stepSize ≠ 0 →
    ∃ t, core.run (tickSchedule ms).length s = .next t ∧ TickStart t ∧ t.schedule = rest ∧
      t.cnt = counterAt s.stepSize ms.length ∧
      t.logq = s.logq ++
        (List.range ms.length).map (fun n => recordOf (counterAt s.stepSize n)) ∧
      t.fault = s.fault ∧ t.stepSize = s.stepSize ∧
      (∀ n, ms.length = n + 1 → t.stage = dutyTriple (counterAt s.stepSize n) ∧
        t.latch = dutyTriple (counterAt s.stepSize n))

/-- R123, R124: a tick in which the draw at slot `k` is 1: everything before the slot has happened and
stays, nothing from it on happens. Boundaries and dropped `tick_due` events may fall anywhere before
it. -/
def Obligations.FaultIsPrecise : Prop :=
  ∀ (s : State) (k : Nat) (work gap rest : List Move) (p : Slot), TickStart s → k ≤ 5 →
    p.val = k → quietWork k work = true → gap.all passingMove = true →
    s.schedule = work ++ gap ++ .sequencer true :: rest →
    ∃ t, core.run (work.length + gap.length + 1) s = .next t ∧ t.mode = .halt ∧ t.ph = p ∧ t.cnt = s.cnt ∧
      t.logq = s.logq ∧ t.schedule = rest ∧
      t.fault = firstFault s.fault ⟨.reject, BitVec.ofNat 2 (k / 2), .slot p⟩ ∧
      t.stage = ⟨if 0 < k then duty .red s.cnt else s.stage.red,
                 if 2 < k then duty .green s.cnt else s.stage.green,
                 if 4 < k then duty .blue s.cnt else s.stage.blue⟩ ∧
      t.latch = ⟨if 1 < k then duty .red s.cnt else s.latch.red,
                 if 3 < k then duty .green s.cnt else s.latch.green, s.latch.blue⟩

/-- R124, R143: a channel left unconfigured: the first tick stages and latches the channels before it
and halts at that channel's `SETM` with `UNCONFIGURED`. Boundaries and dropped `tick_due` events may
fall anywhere before it. -/
def Obligations.MissingChannelHaltsFirstTick : Prop :=
  ∀ (s : State) (c : Channel) (work gap rest : List Move) (r : Bool) (p : Slot),
    s.mode = .run → s.ph = 0 → entry s.cfg c = false →
    (∀ c' : Channel, c'.id.toNat < c.id.toNat → entry s.cfg c' = true) →
    p.val = 2 * c.id.toNat → quietWork p.val work = true → gap.all passingMove = true →
    s.schedule = work ++ gap ++ .sequencer r :: rest →
    ∃ t, core.run (work.length + gap.length + 1) s = .next t ∧ t.mode = .halt ∧ t.ph = p ∧ t.cnt = s.cnt ∧
      t.logq = s.logq ∧ t.fault = firstFault s.fault ⟨.unconfigured, c.id, .slot p⟩ ∧
      (∀ c' : Channel, entry t.stage c' =
        if c'.id.toNat < c.id.toNat then duty c' s.cnt else entry s.stage c') ∧
      (∀ c' : Channel, entry t.latch c' =
        if c'.id.toNat < c.id.toNat then duty c' s.cnt else entry s.latch c')

/-- R146: during a fault-free tick whose old triple is latched and in effect, `ACTIVE` takes only the
four values old, new red, new red and green, new, in that order, each possibly skipped. The count of
steps is that of the model's moves (log entries 1 and 7). -/
def Obligations.ActiveShowsMixedTriples : Prop :=
  ∀ (s : State) (m : TickMoves) (rest : List Move) (old : PerChannel Byte), TickStart s →
    m.quiet = true → s.schedule = m.moves ++ rest → s.latch = old → s.active = old →
    ∃ p : Nat → Nat, Monotone p ∧ (∀ j, p j ≤ 3) ∧ ∀ j, j ≤ m.moves.length →
      ∃ t, core.run j s = .next t ∧ t.active = mixedTriple old (dutyTriple s.cnt) (p j)

/-- R70: the text form of a record. -/
def Obligations.LogLineForm : Prop :=
  recordLine 0x050A050F = "Increment: 5, Duty Cycle (R, G, B): 10, 5, 15" ∧
  ∀ n : Byte, recordLine (recordOf n) =
    "Increment: " ++ toString n.toNat ++ ", Duty Cycle (R, G, B): " ++
      toString (2 * n.toNat % 256) ++ ", " ++ toString n.toNat ++ ", " ++
      toString (3 * n.toNat % 256)
end

