-- ==== Sys2Proof/Laws/Decode.lean ====
section
/-! SUPPORT. The decoder's formats and the fields of an encoded word. -/

namespace Sys2Proof

theorem decodeN_ok {w : CommandWord} {i j : Instr} :
    decodeN w i = .ok j ↔ low12 w = 0 ∧ j = i := by
  unfold decodeN
  split <;> simp_all [eq_comm]

theorem decodeC_ok {w : CommandWord} {i : ChanId → Instr} {j : Instr} :
    decodeC w i = .ok j ↔ low10 w = 0 ∧ j = i (chField w) := by
  unfold decodeC
  split <;> simp_all [eq_comm]

theorem decodeV_ok {w : CommandWord} {i : ChanId → Value → Instr} {j : Instr} :
    decodeV w i = .ok j ↔ zField w = 0 ∧ j = i (chField w) (valField w) := by
  unfold decodeV
  split <;> simp_all [eq_comm]

/-- The fields of a format-C word are what it was put together from (R60, R72). -/
theorem formatC_fields (op : BitVec 4) (ch : ChanId) :
    opField (op.setWidth 16 <<< 12 ||| chBits ch) = op ∧
    chField (op.setWidth 16 <<< 12 ||| chBits ch) = ch ∧
    low10 (op.setWidth 16 <<< 12 ||| chBits ch) = 0 := by
  revert op ch; decide

/-- The top seven bits of a word and its value field together are the word (R60). -/
theorem word_of_fields (w : CommandWord) :
    (opField w).setWidth 16 <<< 12 ||| chBits (chField w) ||| ((zField w).setWidth 16 <<< 9) |||
      (valField w).setWidth 16 = w := by
  ext i hi
  simp only [opField, chBits, chField, zField, valField, BitVec.getElem_or, BitVec.getElem_shiftLeft,
    BitVec.getElem_setWidth, BitVec.getLsbD_extractLsb']
  interval_cases i <;> simp

end Sys2Proof
end

