-- ==== Sys2Proof/Laws/State.lean ====
section
/-! SUPPORT. One lemma for each field of each update: what it writes and what it leaves. -/

namespace Sys2Proof.Machine

@[simp] theorem setCnt_cnt (v : Byte) (s : State) : (setCnt v s).cnt = v := rfl
@[simp] theorem setCnt_ph (v : Byte) (s : State) : (setCnt v s).ph = s.ph := rfl
@[simp] theorem setCnt_mode (v : Byte) (s : State) : (setCnt v s).mode = s.mode := rfl
@[simp] theorem setCnt_fault (v : Byte) (s : State) : (setCnt v s).fault = s.fault := rfl
@[simp] theorem setCnt_tcfg (v : Byte) (s : State) : (setCnt v s).tcfg = s.tcfg := rfl
@[simp] theorem setCnt_cfg (v : Byte) (s : State) : (setCnt v s).cfg = s.cfg := rfl
@[simp] theorem setCnt_stage (v : Byte) (s : State) : (setCnt v s).stage = s.stage := rfl
@[simp] theorem setCnt_latch (v : Byte) (s : State) : (setCnt v s).latch = s.latch := rfl
@[simp] theorem setCnt_active (v : Byte) (s : State) : (setCnt v s).active = s.active := rfl
@[simp] theorem setCnt_logq (v : Byte) (s : State) : (setCnt v s).logq = s.logq := rfl
@[simp] theorem setCnt_turn (v : Byte) (s : State) : (setCnt v s).turn = s.turn := rfl
@[simp] theorem setCnt_schedule (v : Byte) (s : State) : (setCnt v s).schedule = s.schedule := rfl
@[simp] theorem setCnt_drawn (v : Byte) (s : State) : (setCnt v s).drawn = s.drawn := rfl
@[simp] theorem setCnt_calls (v : Byte) (s : State) : (setCnt v s).calls = s.calls := rfl
@[simp] theorem setCnt_stepSize (v : Byte) (s : State) : (setCnt v s).stepSize = s.stepSize := rfl

@[simp] theorem setPh_cnt (v : Slot) (s : State) : (setPh v s).cnt = s.cnt := rfl
@[simp] theorem setPh_ph (v : Slot) (s : State) : (setPh v s).ph = v := rfl
@[simp] theorem setPh_mode (v : Slot) (s : State) : (setPh v s).mode = s.mode := rfl
@[simp] theorem setPh_fault (v : Slot) (s : State) : (setPh v s).fault = s.fault := rfl
@[simp] theorem setPh_tcfg (v : Slot) (s : State) : (setPh v s).tcfg = s.tcfg := rfl
@[simp] theorem setPh_cfg (v : Slot) (s : State) : (setPh v s).cfg = s.cfg := rfl
@[simp] theorem setPh_stage (v : Slot) (s : State) : (setPh v s).stage = s.stage := rfl
@[simp] theorem setPh_latch (v : Slot) (s : State) : (setPh v s).latch = s.latch := rfl
@[simp] theorem setPh_active (v : Slot) (s : State) : (setPh v s).active = s.active := rfl
@[simp] theorem setPh_logq (v : Slot) (s : State) : (setPh v s).logq = s.logq := rfl
@[simp] theorem setPh_turn (v : Slot) (s : State) : (setPh v s).turn = s.turn := rfl
@[simp] theorem setPh_schedule (v : Slot) (s : State) : (setPh v s).schedule = s.schedule := rfl
@[simp] theorem setPh_drawn (v : Slot) (s : State) : (setPh v s).drawn = s.drawn := rfl
@[simp] theorem setPh_calls (v : Slot) (s : State) : (setPh v s).calls = s.calls := rfl
@[simp] theorem setPh_stepSize (v : Slot) (s : State) : (setPh v s).stepSize = s.stepSize := rfl

@[simp] theorem setMode_cnt (v : Mode) (s : State) : (setMode v s).cnt = s.cnt := rfl
@[simp] theorem setMode_ph (v : Mode) (s : State) : (setMode v s).ph = s.ph := rfl
@[simp] theorem setMode_mode (v : Mode) (s : State) : (setMode v s).mode = v := rfl
@[simp] theorem setMode_fault (v : Mode) (s : State) : (setMode v s).fault = s.fault := rfl
@[simp] theorem setMode_tcfg (v : Mode) (s : State) : (setMode v s).tcfg = s.tcfg := rfl
@[simp] theorem setMode_cfg (v : Mode) (s : State) : (setMode v s).cfg = s.cfg := rfl
@[simp] theorem setMode_stage (v : Mode) (s : State) : (setMode v s).stage = s.stage := rfl
@[simp] theorem setMode_latch (v : Mode) (s : State) : (setMode v s).latch = s.latch := rfl
@[simp] theorem setMode_active (v : Mode) (s : State) : (setMode v s).active = s.active := rfl
@[simp] theorem setMode_logq (v : Mode) (s : State) : (setMode v s).logq = s.logq := rfl
@[simp] theorem setMode_turn (v : Mode) (s : State) : (setMode v s).turn = s.turn := rfl
@[simp] theorem setMode_schedule (v : Mode) (s : State) : (setMode v s).schedule = s.schedule := rfl
@[simp] theorem setMode_drawn (v : Mode) (s : State) : (setMode v s).drawn = s.drawn := rfl
@[simp] theorem setMode_calls (v : Mode) (s : State) : (setMode v s).calls = s.calls := rfl
@[simp] theorem setMode_stepSize (v : Mode) (s : State) : (setMode v s).stepSize = s.stepSize := rfl

@[simp] theorem setTcfg_cnt (v : Bool) (s : State) : (setTcfg v s).cnt = s.cnt := rfl
@[simp] theorem setTcfg_ph (v : Bool) (s : State) : (setTcfg v s).ph = s.ph := rfl
@[simp] theorem setTcfg_mode (v : Bool) (s : State) : (setTcfg v s).mode = s.mode := rfl
@[simp] theorem setTcfg_fault (v : Bool) (s : State) : (setTcfg v s).fault = s.fault := rfl
@[simp] theorem setTcfg_tcfg (v : Bool) (s : State) : (setTcfg v s).tcfg = v := rfl
@[simp] theorem setTcfg_cfg (v : Bool) (s : State) : (setTcfg v s).cfg = s.cfg := rfl
@[simp] theorem setTcfg_stage (v : Bool) (s : State) : (setTcfg v s).stage = s.stage := rfl
@[simp] theorem setTcfg_latch (v : Bool) (s : State) : (setTcfg v s).latch = s.latch := rfl
@[simp] theorem setTcfg_active (v : Bool) (s : State) : (setTcfg v s).active = s.active := rfl
@[simp] theorem setTcfg_logq (v : Bool) (s : State) : (setTcfg v s).logq = s.logq := rfl
@[simp] theorem setTcfg_turn (v : Bool) (s : State) : (setTcfg v s).turn = s.turn := rfl
@[simp] theorem setTcfg_schedule (v : Bool) (s : State) : (setTcfg v s).schedule = s.schedule := rfl
@[simp] theorem setTcfg_drawn (v : Bool) (s : State) : (setTcfg v s).drawn = s.drawn := rfl
@[simp] theorem setTcfg_calls (v : Bool) (s : State) : (setTcfg v s).calls = s.calls := rfl
@[simp] theorem setTcfg_stepSize (v : Bool) (s : State) : (setTcfg v s).stepSize = s.stepSize := rfl

@[simp] theorem setCfg_cnt (c : Channel) (v : Bool) (s : State) : (setCfg c v s).cnt = s.cnt := rfl
@[simp] theorem setCfg_ph (c : Channel) (v : Bool) (s : State) : (setCfg c v s).ph = s.ph := rfl
@[simp] theorem setCfg_mode (c : Channel) (v : Bool) (s : State) : (setCfg c v s).mode = s.mode := rfl
@[simp] theorem setCfg_fault (c : Channel) (v : Bool) (s : State) : (setCfg c v s).fault = s.fault := rfl
@[simp] theorem setCfg_tcfg (c : Channel) (v : Bool) (s : State) : (setCfg c v s).tcfg = s.tcfg := rfl
@[simp] theorem setCfg_cfg (c : Channel) (v : Bool) (s : State) : (setCfg c v s).cfg = setEntry s.cfg c v := rfl
@[simp] theorem setCfg_stage (c : Channel) (v : Bool) (s : State) : (setCfg c v s).stage = s.stage := rfl
@[simp] theorem setCfg_latch (c : Channel) (v : Bool) (s : State) : (setCfg c v s).latch = s.latch := rfl
@[simp] theorem setCfg_active (c : Channel) (v : Bool) (s : State) : (setCfg c v s).active = s.active := rfl
@[simp] theorem setCfg_logq (c : Channel) (v : Bool) (s : State) : (setCfg c v s).logq = s.logq := rfl
@[simp] theorem setCfg_turn (c : Channel) (v : Bool) (s : State) : (setCfg c v s).turn = s.turn := rfl
@[simp] theorem setCfg_schedule (c : Channel) (v : Bool) (s : State) : (setCfg c v s).schedule = s.schedule := rfl
@[simp] theorem setCfg_drawn (c : Channel) (v : Bool) (s : State) : (setCfg c v s).drawn = s.drawn := rfl
@[simp] theorem setCfg_calls (c : Channel) (v : Bool) (s : State) : (setCfg c v s).calls = s.calls := rfl
@[simp] theorem setCfg_stepSize (c : Channel) (v : Bool) (s : State) : (setCfg c v s).stepSize = s.stepSize := rfl

@[simp] theorem setStage_cnt (c : Channel) (v : Byte) (s : State) : (setStage c v s).cnt = s.cnt := rfl
@[simp] theorem setStage_ph (c : Channel) (v : Byte) (s : State) : (setStage c v s).ph = s.ph := rfl
@[simp] theorem setStage_mode (c : Channel) (v : Byte) (s : State) : (setStage c v s).mode = s.mode := rfl
@[simp] theorem setStage_fault (c : Channel) (v : Byte) (s : State) : (setStage c v s).fault = s.fault := rfl
@[simp] theorem setStage_tcfg (c : Channel) (v : Byte) (s : State) : (setStage c v s).tcfg = s.tcfg := rfl
@[simp] theorem setStage_cfg (c : Channel) (v : Byte) (s : State) : (setStage c v s).cfg = s.cfg := rfl
@[simp] theorem setStage_stage (c : Channel) (v : Byte) (s : State) : (setStage c v s).stage = setEntry s.stage c v := rfl
@[simp] theorem setStage_latch (c : Channel) (v : Byte) (s : State) : (setStage c v s).latch = s.latch := rfl
@[simp] theorem setStage_active (c : Channel) (v : Byte) (s : State) : (setStage c v s).active = s.active := rfl
@[simp] theorem setStage_logq (c : Channel) (v : Byte) (s : State) : (setStage c v s).logq = s.logq := rfl
@[simp] theorem setStage_turn (c : Channel) (v : Byte) (s : State) : (setStage c v s).turn = s.turn := rfl
@[simp] theorem setStage_schedule (c : Channel) (v : Byte) (s : State) : (setStage c v s).schedule = s.schedule := rfl
@[simp] theorem setStage_drawn (c : Channel) (v : Byte) (s : State) : (setStage c v s).drawn = s.drawn := rfl
@[simp] theorem setStage_calls (c : Channel) (v : Byte) (s : State) : (setStage c v s).calls = s.calls := rfl
@[simp] theorem setStage_stepSize (c : Channel) (v : Byte) (s : State) : (setStage c v s).stepSize = s.stepSize := rfl

@[simp] theorem setLatch_cnt (c : Channel) (v : Byte) (s : State) : (setLatch c v s).cnt = s.cnt := rfl
@[simp] theorem setLatch_ph (c : Channel) (v : Byte) (s : State) : (setLatch c v s).ph = s.ph := rfl
@[simp] theorem setLatch_mode (c : Channel) (v : Byte) (s : State) : (setLatch c v s).mode = s.mode := rfl
@[simp] theorem setLatch_fault (c : Channel) (v : Byte) (s : State) : (setLatch c v s).fault = s.fault := rfl
@[simp] theorem setLatch_tcfg (c : Channel) (v : Byte) (s : State) : (setLatch c v s).tcfg = s.tcfg := rfl
@[simp] theorem setLatch_cfg (c : Channel) (v : Byte) (s : State) : (setLatch c v s).cfg = s.cfg := rfl
@[simp] theorem setLatch_stage (c : Channel) (v : Byte) (s : State) : (setLatch c v s).stage = s.stage := rfl
@[simp] theorem setLatch_latch (c : Channel) (v : Byte) (s : State) : (setLatch c v s).latch = setEntry s.latch c v := rfl
@[simp] theorem setLatch_active (c : Channel) (v : Byte) (s : State) : (setLatch c v s).active = s.active := rfl
@[simp] theorem setLatch_logq (c : Channel) (v : Byte) (s : State) : (setLatch c v s).logq = s.logq := rfl
@[simp] theorem setLatch_turn (c : Channel) (v : Byte) (s : State) : (setLatch c v s).turn = s.turn := rfl
@[simp] theorem setLatch_schedule (c : Channel) (v : Byte) (s : State) : (setLatch c v s).schedule = s.schedule := rfl
@[simp] theorem setLatch_drawn (c : Channel) (v : Byte) (s : State) : (setLatch c v s).drawn = s.drawn := rfl
@[simp] theorem setLatch_calls (c : Channel) (v : Byte) (s : State) : (setLatch c v s).calls = s.calls := rfl
@[simp] theorem setLatch_stepSize (c : Channel) (v : Byte) (s : State) : (setLatch c v s).stepSize = s.stepSize := rfl

@[simp] theorem setActive_cnt (c : Channel) (v : Byte) (s : State) : (setActive c v s).cnt = s.cnt := rfl
@[simp] theorem setActive_ph (c : Channel) (v : Byte) (s : State) : (setActive c v s).ph = s.ph := rfl
@[simp] theorem setActive_mode (c : Channel) (v : Byte) (s : State) : (setActive c v s).mode = s.mode := rfl
@[simp] theorem setActive_fault (c : Channel) (v : Byte) (s : State) : (setActive c v s).fault = s.fault := rfl
@[simp] theorem setActive_tcfg (c : Channel) (v : Byte) (s : State) : (setActive c v s).tcfg = s.tcfg := rfl
@[simp] theorem setActive_cfg (c : Channel) (v : Byte) (s : State) : (setActive c v s).cfg = s.cfg := rfl
@[simp] theorem setActive_stage (c : Channel) (v : Byte) (s : State) : (setActive c v s).stage = s.stage := rfl
@[simp] theorem setActive_latch (c : Channel) (v : Byte) (s : State) : (setActive c v s).latch = s.latch := rfl
@[simp] theorem setActive_active (c : Channel) (v : Byte) (s : State) : (setActive c v s).active = setEntry s.active c v := rfl
@[simp] theorem setActive_logq (c : Channel) (v : Byte) (s : State) : (setActive c v s).logq = s.logq := rfl
@[simp] theorem setActive_turn (c : Channel) (v : Byte) (s : State) : (setActive c v s).turn = s.turn := rfl
@[simp] theorem setActive_schedule (c : Channel) (v : Byte) (s : State) : (setActive c v s).schedule = s.schedule := rfl
@[simp] theorem setActive_drawn (c : Channel) (v : Byte) (s : State) : (setActive c v s).drawn = s.drawn := rfl
@[simp] theorem setActive_calls (c : Channel) (v : Byte) (s : State) : (setActive c v s).calls = s.calls := rfl
@[simp] theorem setActive_stepSize (c : Channel) (v : Byte) (s : State) : (setActive c v s).stepSize = s.stepSize := rfl

@[simp] theorem emit_cnt (r : Record) (s : State) : (emit r s).cnt = s.cnt := rfl
@[simp] theorem emit_ph (r : Record) (s : State) : (emit r s).ph = s.ph := rfl
@[simp] theorem emit_mode (r : Record) (s : State) : (emit r s).mode = s.mode := rfl
@[simp] theorem emit_fault (r : Record) (s : State) : (emit r s).fault = s.fault := rfl
@[simp] theorem emit_tcfg (r : Record) (s : State) : (emit r s).tcfg = s.tcfg := rfl
@[simp] theorem emit_cfg (r : Record) (s : State) : (emit r s).cfg = s.cfg := rfl
@[simp] theorem emit_stage (r : Record) (s : State) : (emit r s).stage = s.stage := rfl
@[simp] theorem emit_latch (r : Record) (s : State) : (emit r s).latch = s.latch := rfl
@[simp] theorem emit_active (r : Record) (s : State) : (emit r s).active = s.active := rfl
@[simp] theorem emit_logq (r : Record) (s : State) : (emit r s).logq = s.logq ++ [r] := rfl
@[simp] theorem emit_turn (r : Record) (s : State) : (emit r s).turn = s.turn := rfl
@[simp] theorem emit_schedule (r : Record) (s : State) : (emit r s).schedule = s.schedule := rfl
@[simp] theorem emit_drawn (r : Record) (s : State) : (emit r s).drawn = s.drawn := rfl
@[simp] theorem emit_calls (r : Record) (s : State) : (emit r s).calls = s.calls := rfl
@[simp] theorem emit_stepSize (r : Record) (s : State) : (emit r s).stepSize = s.stepSize := rfl

@[simp] theorem recordCall_cnt (c : LatchCall) (s : State) : (recordCall c s).cnt = s.cnt := rfl
@[simp] theorem recordCall_ph (c : LatchCall) (s : State) : (recordCall c s).ph = s.ph := rfl
@[simp] theorem recordCall_mode (c : LatchCall) (s : State) : (recordCall c s).mode = s.mode := rfl
@[simp] theorem recordCall_fault (c : LatchCall) (s : State) : (recordCall c s).fault = s.fault := rfl
@[simp] theorem recordCall_tcfg (c : LatchCall) (s : State) : (recordCall c s).tcfg = s.tcfg := rfl
@[simp] theorem recordCall_cfg (c : LatchCall) (s : State) : (recordCall c s).cfg = s.cfg := rfl
@[simp] theorem recordCall_stage (c : LatchCall) (s : State) : (recordCall c s).stage = s.stage := rfl
@[simp] theorem recordCall_latch (c : LatchCall) (s : State) : (recordCall c s).latch = s.latch := rfl
@[simp] theorem recordCall_active (c : LatchCall) (s : State) : (recordCall c s).active = s.active := rfl
@[simp] theorem recordCall_logq (c : LatchCall) (s : State) : (recordCall c s).logq = s.logq := rfl
@[simp] theorem recordCall_turn (c : LatchCall) (s : State) : (recordCall c s).turn = s.turn := rfl
@[simp] theorem recordCall_schedule (c : LatchCall) (s : State) : (recordCall c s).schedule = s.schedule := rfl
@[simp] theorem recordCall_drawn (c : LatchCall) (s : State) : (recordCall c s).drawn = s.drawn := rfl
@[simp] theorem recordCall_calls (c : LatchCall) (s : State) : (recordCall c s).calls = s.calls ++ [c] := rfl
@[simp] theorem recordCall_stepSize (c : LatchCall) (s : State) : (recordCall c s).stepSize = s.stepSize := rfl

@[simp] theorem beginTurn_cnt (t : Turn) (s : State) : (beginTurn t s).cnt = s.cnt := rfl
@[simp] theorem beginTurn_ph (t : Turn) (s : State) : (beginTurn t s).ph = s.ph := rfl
@[simp] theorem beginTurn_mode (t : Turn) (s : State) : (beginTurn t s).mode = s.mode := rfl
@[simp] theorem beginTurn_fault (t : Turn) (s : State) : (beginTurn t s).fault = s.fault := rfl
@[simp] theorem beginTurn_tcfg (t : Turn) (s : State) : (beginTurn t s).tcfg = s.tcfg := rfl
@[simp] theorem beginTurn_cfg (t : Turn) (s : State) : (beginTurn t s).cfg = s.cfg := rfl
@[simp] theorem beginTurn_stage (t : Turn) (s : State) : (beginTurn t s).stage = s.stage := rfl
@[simp] theorem beginTurn_latch (t : Turn) (s : State) : (beginTurn t s).latch = s.latch := rfl
@[simp] theorem beginTurn_active (t : Turn) (s : State) : (beginTurn t s).active = s.active := rfl
@[simp] theorem beginTurn_logq (t : Turn) (s : State) : (beginTurn t s).logq = s.logq := rfl
@[simp] theorem beginTurn_turn (t : Turn) (s : State) : (beginTurn t s).turn = t := rfl
@[simp] theorem beginTurn_schedule (t : Turn) (s : State) : (beginTurn t s).schedule = s.schedule := rfl
@[simp] theorem beginTurn_drawn (t : Turn) (s : State) : (beginTurn t s).drawn = s.drawn := rfl
@[simp] theorem beginTurn_calls (t : Turn) (s : State) : (beginTurn t s).calls = s.calls := rfl
@[simp] theorem beginTurn_stepSize (t : Turn) (s : State) : (beginTurn t s).stepSize = s.stepSize := rfl

@[simp] theorem scheduleFirst_cnt (m : Move) (s : State) : (scheduleFirst m s).cnt = s.cnt := rfl
@[simp] theorem scheduleFirst_ph (m : Move) (s : State) : (scheduleFirst m s).ph = s.ph := rfl
@[simp] theorem scheduleFirst_mode (m : Move) (s : State) : (scheduleFirst m s).mode = s.mode := rfl
@[simp] theorem scheduleFirst_fault (m : Move) (s : State) : (scheduleFirst m s).fault = s.fault := rfl
@[simp] theorem scheduleFirst_tcfg (m : Move) (s : State) : (scheduleFirst m s).tcfg = s.tcfg := rfl
@[simp] theorem scheduleFirst_cfg (m : Move) (s : State) : (scheduleFirst m s).cfg = s.cfg := rfl
@[simp] theorem scheduleFirst_stage (m : Move) (s : State) : (scheduleFirst m s).stage = s.stage := rfl
@[simp] theorem scheduleFirst_latch (m : Move) (s : State) : (scheduleFirst m s).latch = s.latch := rfl
@[simp] theorem scheduleFirst_active (m : Move) (s : State) : (scheduleFirst m s).active = s.active := rfl
@[simp] theorem scheduleFirst_logq (m : Move) (s : State) : (scheduleFirst m s).logq = s.logq := rfl
@[simp] theorem scheduleFirst_turn (m : Move) (s : State) : (scheduleFirst m s).turn = s.turn := rfl
@[simp] theorem scheduleFirst_schedule (m : Move) (s : State) : (scheduleFirst m s).schedule = m :: s.schedule := rfl
@[simp] theorem scheduleFirst_drawn (m : Move) (s : State) : (scheduleFirst m s).drawn = s.drawn := rfl
@[simp] theorem scheduleFirst_calls (m : Move) (s : State) : (scheduleFirst m s).calls = s.calls := rfl
@[simp] theorem scheduleFirst_stepSize (m : Move) (s : State) : (scheduleFirst m s).stepSize = s.stepSize := rfl

@[simp] theorem recordFault_cnt (r : FaultRecord) (s : State) : (recordFault r s).cnt = s.cnt := rfl
@[simp] theorem recordFault_ph (r : FaultRecord) (s : State) : (recordFault r s).ph = s.ph := rfl
@[simp] theorem recordFault_mode (r : FaultRecord) (s : State) : (recordFault r s).mode = s.mode := rfl
@[simp] theorem recordFault_fault (r : FaultRecord) (s : State) :
    (recordFault r s).fault = some (s.fault.getD r) := by
  cases h : s.fault <;> simp [recordFault, h]
@[simp] theorem recordFault_tcfg (r : FaultRecord) (s : State) : (recordFault r s).tcfg = s.tcfg := rfl
@[simp] theorem recordFault_cfg (r : FaultRecord) (s : State) : (recordFault r s).cfg = s.cfg := rfl
@[simp] theorem recordFault_stage (r : FaultRecord) (s : State) : (recordFault r s).stage = s.stage := rfl
@[simp] theorem recordFault_latch (r : FaultRecord) (s : State) : (recordFault r s).latch = s.latch := rfl
@[simp] theorem recordFault_active (r : FaultRecord) (s : State) : (recordFault r s).active = s.active := rfl
@[simp] theorem recordFault_logq (r : FaultRecord) (s : State) : (recordFault r s).logq = s.logq := rfl
@[simp] theorem recordFault_turn (r : FaultRecord) (s : State) : (recordFault r s).turn = s.turn := rfl
@[simp] theorem recordFault_schedule (r : FaultRecord) (s : State) : (recordFault r s).schedule = s.schedule := rfl
@[simp] theorem recordFault_drawn (r : FaultRecord) (s : State) : (recordFault r s).drawn = s.drawn := rfl
@[simp] theorem recordFault_calls (r : FaultRecord) (s : State) : (recordFault r s).calls = s.calls := rfl
@[simp] theorem recordFault_stepSize (r : FaultRecord) (s : State) : (recordFault r s).stepSize = s.stepSize := rfl

@[simp] theorem complete_cnt (s : State) :
    (complete s).cnt = s.cnt := by
  cases h : s.turn.issuer <;> simp [complete, h]
@[simp] theorem complete_ph (s : State) :
    (complete s).ph = if s.turn.issuer = .sequencer then nextSlot s.ph else s.ph := by
  cases h : s.turn.issuer <;> simp [complete, h]
@[simp] theorem complete_mode (s : State) :
    (complete s).mode = s.mode := by
  cases h : s.turn.issuer <;> simp [complete, h]
@[simp] theorem complete_fault (s : State) :
    (complete s).fault = s.fault := by
  cases h : s.turn.issuer <;> simp [complete, h]
@[simp] theorem complete_tcfg (s : State) :
    (complete s).tcfg = s.tcfg := by
  cases h : s.turn.issuer <;> simp [complete, h]
@[simp] theorem complete_cfg (s : State) :
    (complete s).cfg = s.cfg := by
  cases h : s.turn.issuer <;> simp [complete, h]
@[simp] theorem complete_stage (s : State) :
    (complete s).stage = s.stage := by
  cases h : s.turn.issuer <;> simp [complete, h]
@[simp] theorem complete_latch (s : State) :
    (complete s).latch = s.latch := by
  cases h : s.turn.issuer <;> simp [complete, h]
@[simp] theorem complete_active (s : State) :
    (complete s).active = s.active := by
  cases h : s.turn.issuer <;> simp [complete, h]
@[simp] theorem complete_logq (s : State) :
    (complete s).logq = s.logq := by
  cases h : s.turn.issuer <;> simp [complete, h]
@[simp] theorem complete_turn (s : State) :
    (complete s).turn = s.turn := by
  cases h : s.turn.issuer <;> simp [complete, h]
@[simp] theorem complete_schedule (s : State) :
    (complete s).schedule = s.schedule := by
  cases h : s.turn.issuer <;> simp [complete, h]
@[simp] theorem complete_drawn (s : State) :
    (complete s).drawn = s.drawn := by
  cases h : s.turn.issuer <;> simp [complete, h]
@[simp] theorem complete_calls (s : State) :
    (complete s).calls = s.calls := by
  cases h : s.turn.issuer <;> simp [complete, h]
@[simp] theorem complete_stepSize (s : State) :
    (complete s).stepSize = s.stepSize := by
  cases h : s.turn.issuer <;> simp [complete, h]

@[simp] theorem raiseHardwareFault_cnt (cause : Cause) (ch : ChanId) (s : State) :
    (raiseHardwareFault cause ch s).cnt = s.cnt := by
  cases h : s.turn.issuer <;> simp [raiseHardwareFault, h]
@[simp] theorem raiseHardwareFault_ph (cause : Cause) (ch : ChanId) (s : State) :
    (raiseHardwareFault cause ch s).ph = s.ph := by
  cases h : s.turn.issuer <;> simp [raiseHardwareFault, h]
@[simp] theorem raiseHardwareFault_mode (cause : Cause) (ch : ChanId) (s : State) :
    (raiseHardwareFault cause ch s).mode = if s.turn.issuer = .sequencer then .halt else s.mode := by
  cases h : s.turn.issuer <;> simp [raiseHardwareFault, h]
@[simp] theorem raiseHardwareFault_fault (cause : Cause) (ch : ChanId) (s : State) :
    (raiseHardwareFault cause ch s).fault = some (s.fault.getD ⟨cause, ch, faultSlot s⟩) := by
  cases h : s.turn.issuer <;> simp [raiseHardwareFault, h]
@[simp] theorem raiseHardwareFault_tcfg (cause : Cause) (ch : ChanId) (s : State) :
    (raiseHardwareFault cause ch s).tcfg = s.tcfg := by
  cases h : s.turn.issuer <;> simp [raiseHardwareFault, h]
@[simp] theorem raiseHardwareFault_cfg (cause : Cause) (ch : ChanId) (s : State) :
    (raiseHardwareFault cause ch s).cfg = s.cfg := by
  cases h : s.turn.issuer <;> simp [raiseHardwareFault, h]
@[simp] theorem raiseHardwareFault_stage (cause : Cause) (ch : ChanId) (s : State) :
    (raiseHardwareFault cause ch s).stage = s.stage := by
  cases h : s.turn.issuer <;> simp [raiseHardwareFault, h]
@[simp] theorem raiseHardwareFault_latch (cause : Cause) (ch : ChanId) (s : State) :
    (raiseHardwareFault cause ch s).latch = s.latch := by
  cases h : s.turn.issuer <;> simp [raiseHardwareFault, h]
@[simp] theorem raiseHardwareFault_active (cause : Cause) (ch : ChanId) (s : State) :
    (raiseHardwareFault cause ch s).active = s.active := by
  cases h : s.turn.issuer <;> simp [raiseHardwareFault, h]
@[simp] theorem raiseHardwareFault_logq (cause : Cause) (ch : ChanId) (s : State) :
    (raiseHardwareFault cause ch s).logq = s.logq := by
  cases h : s.turn.issuer <;> simp [raiseHardwareFault, h]
@[simp] theorem raiseHardwareFault_turn (cause : Cause) (ch : ChanId) (s : State) :
    (raiseHardwareFault cause ch s).turn = s.turn := by
  cases h : s.turn.issuer <;> simp [raiseHardwareFault, h]
@[simp] theorem raiseHardwareFault_schedule (cause : Cause) (ch : ChanId) (s : State) :
    (raiseHardwareFault cause ch s).schedule = s.schedule := by
  cases h : s.turn.issuer <;> simp [raiseHardwareFault, h]
@[simp] theorem raiseHardwareFault_drawn (cause : Cause) (ch : ChanId) (s : State) :
    (raiseHardwareFault cause ch s).drawn = s.drawn := by
  cases h : s.turn.issuer <;> simp [raiseHardwareFault, h]
@[simp] theorem raiseHardwareFault_calls (cause : Cause) (ch : ChanId) (s : State) :
    (raiseHardwareFault cause ch s).calls = s.calls := by
  cases h : s.turn.issuer <;> simp [raiseHardwareFault, h]
@[simp] theorem raiseHardwareFault_stepSize (cause : Cause) (ch : ChanId) (s : State) :
    (raiseHardwareFault cause ch s).stepSize = s.stepSize := by
  cases h : s.turn.issuer <;> simp [raiseHardwareFault, h]

@[simp] theorem pwmBoundaryEvent_cnt (s : State) : (pwmBoundaryEvent s).cnt = s.cnt := by
  cases h : s.tcfg <;> simp [pwmBoundaryEvent, h]
@[simp] theorem pwmBoundaryEvent_ph (s : State) : (pwmBoundaryEvent s).ph = s.ph := by
  cases h : s.tcfg <;> simp [pwmBoundaryEvent, h]
@[simp] theorem pwmBoundaryEvent_mode (s : State) : (pwmBoundaryEvent s).mode = s.mode := by
  cases h : s.tcfg <;> simp [pwmBoundaryEvent, h]
@[simp] theorem pwmBoundaryEvent_fault (s : State) : (pwmBoundaryEvent s).fault = s.fault := by
  cases h : s.tcfg <;> simp [pwmBoundaryEvent, h]
@[simp] theorem pwmBoundaryEvent_tcfg (s : State) : (pwmBoundaryEvent s).tcfg = s.tcfg := by
  cases h : s.tcfg <;> simp [pwmBoundaryEvent, h]
@[simp] theorem pwmBoundaryEvent_cfg (s : State) : (pwmBoundaryEvent s).cfg = s.cfg := by
  cases h : s.tcfg <;> simp [pwmBoundaryEvent, h]
@[simp] theorem pwmBoundaryEvent_stage (s : State) : (pwmBoundaryEvent s).stage = s.stage := by
  cases h : s.tcfg <;> simp [pwmBoundaryEvent, h]
@[simp] theorem pwmBoundaryEvent_latch (s : State) : (pwmBoundaryEvent s).latch = s.latch := by
  cases h : s.tcfg <;> simp [pwmBoundaryEvent, h]
@[simp] theorem pwmBoundaryEvent_logq (s : State) : (pwmBoundaryEvent s).logq = s.logq := by
  cases h : s.tcfg <;> simp [pwmBoundaryEvent, h]
@[simp] theorem pwmBoundaryEvent_turn (s : State) : (pwmBoundaryEvent s).turn = s.turn := by
  cases h : s.tcfg <;> simp [pwmBoundaryEvent, h]
@[simp] theorem pwmBoundaryEvent_schedule (s : State) : (pwmBoundaryEvent s).schedule = s.schedule := by
  cases h : s.tcfg <;> simp [pwmBoundaryEvent, h]
@[simp] theorem pwmBoundaryEvent_drawn (s : State) : (pwmBoundaryEvent s).drawn = s.drawn := by
  cases h : s.tcfg <;> simp [pwmBoundaryEvent, h]
@[simp] theorem pwmBoundaryEvent_calls (s : State) : (pwmBoundaryEvent s).calls = s.calls := by
  cases h : s.tcfg <;> simp [pwmBoundaryEvent, h]
@[simp] theorem pwmBoundaryEvent_stepSize (s : State) : (pwmBoundaryEvent s).stepSize = s.stepSize := by
  cases h : s.tcfg <;> simp [pwmBoundaryEvent, h]

@[simp] theorem resetEvent_logq (s : State) : (resetEvent s).logq = s.logq := rfl
@[simp] theorem resetEvent_turn (s : State) : (resetEvent s).turn = s.turn := rfl
@[simp] theorem resetEvent_schedule (s : State) : (resetEvent s).schedule = s.schedule := rfl
@[simp] theorem resetEvent_stepSize (s : State) : (resetEvent s).stepSize = s.stepSize := rfl

end Sys2Proof.Machine
end

