-- ==== Sys2Proof/Laws/Ops.lean ====
section
/-! SUPPORT. What each shared operation does, said once: operands, admission, the latch check, taking
`HardwareFault`, a latch operation. -/

namespace Sys2Proof.Machine

open Sys2Proof.Safety

/-! ### Channels and register files -/

@[simp] theorem channelOf_id (c : Channel) : channelOf c.id = some c := by cases c <;> rfl

theorem channelOf_eq_some_iff (ch : ChanId) (c : Channel) : channelOf ch = some c ↔ ch = c.id := by
  cases c <;> revert ch <;> decide

theorem channelOf_eq_none_iff (ch : ChanId) : channelOf ch = none ↔ ch = 3 := by
  revert ch; decide

theorem channelOf_cases (ch : ChanId) : channelOf ch = none ∨ ∃ c, channelOf ch = some c := by
  cases channelOf ch <;> simp

@[simp] theorem entry_setEntry_same {α : Type} (f : PerChannel α) (c : Channel) (v : α) :
    entry (setEntry f c v) c = v := by cases c <;> rfl

theorem entry_setEntry_ne {α : Type} (f : PerChannel α) {c c' : Channel} (v : α) (h : c' ≠ c) :
    entry (setEntry f c v) c' = entry f c' := by
  cases c <;> cases c' <;> first | rfl | exact absurd rfl h

/-- Two register files with the same entries are the same. -/
theorem entry_ext {α : Type} {f g : PerChannel α} (h : ∀ c, entry f c = entry g c) : f = g := by
  cases f; cases g
  have hr := h .red; have hg := h .green; have hb := h .blue
  simp only [entry] at hr hg hb
  simp [hr, hg, hb]

/-- A `set_duty` of a byte is never out of range (R93, R109 e). -/
@[simp] theorem outOfRange_byteValue (v : Byte) : outOfRange (byteValue v) = false := by
  have := v.isLt
  simp only [outOfRange, byteValue, BitVec.toNat_setWidth, decide_eq_false_iff_not]
  omega

/-! ### Admission -/

theorem hostOnly_next {s t : State} {r : Result} :
    hostOnly s r = .next t ↔ s.turn.issuer = .host ∧ s.mode = .off ∧ r = .next t := by
  unfold hostOnly
  by_cases h1 : s.turn.issuer = .host <;> by_cases h2 : s.mode = .off <;> simp [h1, h2]

theorem sequencerOnly_next {s t : State} {r : Result} :
    sequencerOnly s r = .next t ↔ s.turn.issuer = .sequencer ∧ s.mode = .run ∧ r = .next t := by
  unfold sequencerOnly
  by_cases h1 : s.turn.issuer = .sequencer <;> by_cases h2 : s.mode = .run <;> simp [h1, h2]

theorem hostOrSequencer_next {s t : State} {r : Result} :
    hostOrSequencer s r = .next t ↔
      ((s.turn.issuer = .host ∧ s.mode = .off) ∨ (s.turn.issuer = .sequencer ∧ s.mode = .run)) ∧
        r = .next t := by
  unfold hostOrSequencer
  cases h : s.turn.issuer <;> simp [hostOnly_next, sequencerOnly_next, h]

/-- An operation of the host port, where it is admitted. -/
@[simp] theorem hostOnly_admitted {s : State} {r : Result} (h1 : s.turn.issuer = .host)
    (h2 : s.mode = .off) : hostOnly s r = r := by simp [hostOnly, h1, h2]

/-- An operation of the sequencer, where it is admitted. -/
@[simp] theorem sequencerOnly_admitted {s : State} {r : Result} (h1 : s.turn.issuer = .sequencer)
    (h2 : s.mode = .run) : sequencerOnly s r = r := by simp [sequencerOnly, h1, h2]

/-- Outside its issuer and mode an operation of the host port is refused. -/
theorem hostOnly_refused {s : State} {r : Result} (h : ¬ (s.turn.issuer = .host ∧ s.mode = .off)) :
    IsRefused (hostOnly s r) := by
  unfold hostOnly
  by_cases h1 : s.turn.issuer = .host <;> by_cases h2 : s.mode = .off <;>
    simp_all [IsRefused]

/-- Outside its issuer and mode an operation of the sequencer is refused. -/
theorem sequencerOnly_refused {s : State} {r : Result}
    (h : ¬ (s.turn.issuer = .sequencer ∧ s.mode = .run)) : IsRefused (sequencerOnly s r) := by
  unfold sequencerOnly
  by_cases h1 : s.turn.issuer = .sequencer <;> by_cases h2 : s.mode = .run <;>
    simp_all [IsRefused]

/-! ### The latch check and the fault -/

/-- What the latch check answers: the channel, configured and with no cause to fault, or the first
cause that holds (R91, R122). -/
theorem latchCheck_spec (req : LatchRequest) (ch : ChanId) (s : State) :
    (∃ c, latchCheck req ch s = .ok c ∧ channelOf ch = some c ∧ entry s.cfg c = true ∧
      requestOutOfRange req = false ∧ s.turn.reject = false) ∨
    (∃ cause, latchCheck req ch s = .error cause ∧
      IsFirstCause cause (requestOutOfRange req = true) ch s) := by
  unfold latchCheck
  rcases h : channelOf ch with _ | c
  · exact .inr ⟨.unconfigured, rfl, by simp [IsFirstCause, h]⟩
  · cases h1 : entry s.cfg c
    · exact .inr ⟨.unconfigured, by simp [h1], by simp [IsFirstCause, h, h1]⟩
    · cases h2 : requestOutOfRange req
      · cases h3 : s.turn.reject
        · exact .inl ⟨c, by simp [h1], rfl, h1, rfl, rfl⟩
        · exact .inr ⟨.reject, by simp [h1], by simp [IsFirstCause, h, h1, h3]⟩
      · exact .inr ⟨.range, by simp [h1], by simp [IsFirstCause, h, h1]⟩

/-- The latch check passes on a configured channel with no cause to fault. -/
theorem latchCheck_ok {req : LatchRequest} {ch : ChanId} {c : Channel} {s : State}
    (h : channelOf ch = some c) (h1 : entry s.cfg c = true) (h2 : requestOutOfRange req = false)
    (h3 : s.turn.reject = false) : latchCheck req ch s = .ok c := by
  simp [latchCheck, h, h1, h2, h3]

/-- The latch check raises the first cause that holds. -/
theorem latchCheck_error {cause : Cause} {req : LatchRequest} {ch : ChanId} {s : State}
    (h : IsFirstCause cause (requestOutOfRange req = true) ch s) :
    latchCheck req ch s = .error cause := by
  cases cause with
  | unconfigured =>
    rcases hc : channelOf ch with _ | c
    · simp [latchCheck, hc]
    · simp [latchCheck, hc, h c hc]
  | range =>
    obtain ⟨⟨c, hc, h1⟩, h2⟩ := h
    simp [latchCheck, hc, h1, h2]
  | reject =>
    obtain ⟨⟨c, hc, h1⟩, h2, h3⟩ := h
    simp [latchCheck, hc, h1, h2, h3]

/-- Taking a fault of the sequencer (R123). -/
theorem raiseHardwareFault_sequencer (cause : Cause) (ch : ChanId) {s : State}
    (h : s.turn.issuer = .sequencer) : raiseHardwareFault cause ch s =
      { s with mode := .halt, fault := firstFault s.fault ⟨cause, ch, .slot s.ph⟩ } := by
  cases hf : s.fault <;>
    simp [raiseHardwareFault, recordFault, setMode, faultSlot, firstFault, h, hf]

/-- Taking a fault of a host-issued operation (R136). -/
theorem raiseHardwareFault_host (cause : Cause) (ch : ChanId) {s : State}
    (h : s.turn.issuer = .host) : raiseHardwareFault cause ch s =
      { s with fault := firstFault s.fault ⟨cause, ch, .hostPort⟩ } := by
  cases hf : s.fault <;>
    simp [raiseHardwareFault, recordFault, faultSlot, firstFault, h, hf]

/-- Everything a latch operation can do: complete with its write to the channel's entry, or fail
with the first cause that holds (R91 to R94). -/
theorem latchOperation_cases (op : Instr) (req : LatchRequest) (ch : ChanId)
    (write : Channel → State → State) (s : State) :
    (∃ c, channelOf ch = some c ∧ entry s.cfg c = true ∧ requestOutOfRange req = false ∧
      s.turn.reject = false ∧ latchOperation op req ch write s =
        complete (write c (recordCall ⟨s.turn.issuer, op, requestValue req, none⟩ s))) ∨
    (∃ cause, IsFirstCause cause (requestOutOfRange req = true) ch s ∧
      latchOperation op req ch write s = failLatch op (requestValue req) ch cause s) := by
  rcases latchCheck_spec req ch s with ⟨c, h, hc, h1, h2, h3⟩ | ⟨cause, h, hcause⟩
  · exact .inl ⟨c, hc, h1, h2, h3, by simp [latchOperation, h]⟩
  · exact .inr ⟨cause, hcause, by simp [latchOperation, h]⟩

end Sys2Proof.Machine
end

