-- ==== Sys2Proof/Laws/Agents.lean ====
section
/-! SUPPORT. What a move can do, said once: taking it, performing it, the micro-program's operations. -/

namespace Sys2Proof.Machine

/-! ### The micro-program -/

/-- The operation of a slot (R66). -/
def romOp : Slot → Instr
  | 0 => .setm 0
  | 1 => .cmt 0
  | 2 => .setm 1
  | 3 => .cmt 1
  | 4 => .setm 2
  | 5 => .cmt 2
  | 6 => .log
  | 7 => .adv
  | 8 => .wait

/-- Every word of `ROM` decodes to the operation of its slot (R66, R72). -/
theorem decode_rom (p : Slot) : decode (rom p) = .ok (romOp p) := by
  revert p; decide

/-- A slot that is not the last is followed by the next number (R105). -/
theorem nextSlot_val_of_lt {p : Slot} (h : p.val < 8) : (nextSlot p).val = p.val + 1 := by
  revert p; decide

@[simp] theorem nextSlot_last : nextSlot 8 = 0 := rfl

/-! ### Words -/

/-- A word that decodes is performed as its operation. -/
theorem performWord_of_decode {w : CommandWord} {i : Instr} (h : decode w = .ok i) (s : State) :
    performWord w s = exec i s := by simp [performWord, h]

/-- A word that leads to a next state decodes to an operation that leads there. -/
theorem performWord_next {w : CommandWord} {s t : State} (h : performWord w s = .next t) :
    ∃ i, decode w = .ok i ∧ exec i s = .next t := by
  unfold performWord at h
  split at h
  · exact ⟨_, ‹_›, h⟩
  · cases h

/-! ### Turns -/

/-- In `RUN` the sequencer performs the operation of its slot (R100). -/
theorem sequencerTurn_run {s : State} (h : s.mode = .run) (reject tickDue : Bool) :
    sequencerTurn reject tickDue s =
      exec (romOp s.ph) (beginTurn ⟨.sequencer, reject, tickDue⟩ s) := by
  simp [sequencerTurn, h, performWord_of_decode (decode_rom s.ph)]

/-- Outside `RUN` the sequencer's turn changes nothing (R100). -/
theorem sequencerTurn_stuck {s : State} (h : s.mode ≠ .run) (reject tickDue : Bool) :
    sequencerTurn reject tickDue s = .next s := by
  cases hm : s.mode <;> simp_all [sequencerTurn]

/-- Everything a move that leads to a next state can have done. -/
theorem performMove_next {m : Move} {s t : State} (h : performMove m s = .next t) :
    (∃ w r i, m = .host w r ∧ decode w = .ok i ∧
      exec i (beginTurn ⟨.host, r, false⟩ s) = .next t) ∨
    (∃ r, m = .sequencer r ∧ s.mode = .run ∧
      exec (romOp s.ph) (beginTurn ⟨.sequencer, r, false⟩ s) = .next t) ∨
    (m = .tickDue ∧ s.mode = .run ∧ s.ph = 8 ∧
      t = setPh 0 (beginTurn ⟨.sequencer, false, true⟩ s)) ∨
    (t = s ∧ ((∃ r, m = .sequencer r) ∧ s.mode ≠ .run ∨ m = .tickDue)) ∨
    (m = .pwmBoundary ∧ t = pwmBoundaryEvent s) ∨
    (m = .reset ∧ t = resetEvent s) := by
  cases m with
  | host w r =>
    obtain ⟨i, hd, he⟩ := performWord_next h
    exact .inl ⟨w, r, i, rfl, hd, he⟩
  | sequencer r =>
    by_cases hm : s.mode = .run
    · exact .inr (.inl ⟨r, rfl, hm, by simpa [performMove, sequencerTurn_run hm] using h⟩)
    · have : s = t := by simpa [performMove, sequencerTurn_stuck hm] using h
      exact .inr (.inr (.inr (.inl ⟨this.symm, .inl ⟨⟨r, rfl⟩, hm⟩⟩)))
  | tickDue =>
    by_cases hm : s.mode = .run ∧ s.ph = 8
    · refine .inr (.inr (.inl ⟨rfl, hm.1, hm.2, ?_⟩))
      have : exec .wait (beginTurn ⟨.sequencer, false, true⟩ s) = .next t := by
        simpa [performMove, tickDueEvent, hm, sequencerTurn_run hm.1, romOp] using h
      simp only [exec, execWait] at this
      obtain ⟨-, -, hw⟩ := sequencerOnly_next.1 this
      simpa [complete, hm.2, beginTurn, setPh, eq_comm] using hw
    · have : s = t := by simpa [performMove, tickDueEvent, hm] using h
      exact .inr (.inr (.inr (.inl ⟨this.symm, .inr rfl⟩)))
  | pwmBoundary =>
    have : pwmBoundaryEvent s = t := by simpa [performMove] using h
    exact .inr (.inr (.inr (.inr (.inl ⟨rfl, this.symm⟩))))
  | reset =>
    have : resetEvent s = t := by simpa [performMove] using h
    exact .inr (.inr (.inr (.inr (.inr ⟨rfl, this.symm⟩))))

/-! ### Steps -/

/-- A step with a scheduled move performs it. -/
theorem step_of_schedule {s : State} {m : Move} {rest : List Move} (h : s.schedule = m :: rest) :
    step s = performMove m { s with schedule := rest } := by
  simp [step, takeMove, h]

/-- Taking a move changes nothing but the schedule and the count of free values. -/
theorem takeMove_state (s : State) :
    (takeMove s).2 = { s with schedule := (takeMove s).2.schedule, drawn := (takeMove s).2.drawn } := by
  unfold takeMove
  split <;> rfl

end Sys2Proof.Machine
end

