-- ==== Sys2Proof/Laws/PerInstr.lean ====
section
/-! SUPPORT. Statements about every operation as syntax, one lemma for each constructor. -/

/-! ### Every operation is encoded by a word of its own row of the opcode map (R63, R72) -/

namespace Sys2Proof.Laws.EncodesItsRow

/-- The row of the operation is in the opcode map and its encoding matches that row. -/
def Statement (i : Instr) : Prop := i.row ∈ opcodeTable ∧ i.row.encodes (encode i)

/-- A format-C word keeps the opcode under the mask `0xF3FF` (R63). -/
theorem formatC_masked (op : BitVec 4) (ch : ChanId) :
    (op.setWidth 16 <<< 12 ||| chBits ch) &&& 0xF3FF = op.setWidth 16 <<< 12 := by
  revert op ch; decide

/-- A format-V word keeps the opcode under the mask `0xF200` (R63). -/
theorem formatV_masked (ch : ChanId) (val : Value) :
    (0x4000 ||| chBits ch ||| val.setWidth 16) &&& 0xF200 = (0x4000 : CommandWord) := by
  have hch : ∀ ch : ChanId, (0x4000 ||| chBits ch) &&& 0xF200 = (0x4000 : CommandWord) := by decide
  have hval : val.setWidth 16 &&& 0xF200 = (0 : CommandWord) := by
    ext i hi
    interval_cases i <;> simp
  have hor : ∀ a b m : CommandWord, (a ||| b) &&& m = (a &&& m) ||| (b &&& m) := by
    intro a b m
    ext i hi
    simp [Bool.and_or_distrib_right]
  rw [hor, hch, hval]
  rfl

theorem cfgt : Statement .cfgt := by unfold Statement; decide
theorem cfgc (ch : ChanId) : Statement (.cfgc ch) := ⟨by simp [opcodeTable, Instr.row], formatC_masked 2 ch⟩
theorem init : Statement .init := by unfold Statement; decide
theorem setd (ch : ChanId) (val : Value) : Statement (.setd ch val) :=
  ⟨by simp [opcodeTable, Instr.row], formatV_masked ch val⟩
theorem setm (ch : ChanId) : Statement (.setm ch) := ⟨by simp [opcodeTable, Instr.row], formatC_masked 5 ch⟩
theorem cmt (ch : ChanId) : Statement (.cmt ch) := ⟨by simp [opcodeTable, Instr.row], formatC_masked 6 ch⟩
theorem log : Statement .log := by unfold Statement; decide
theorem adv : Statement .adv := by unfold Statement; decide
theorem wait : Statement .wait := by unfold Statement; decide

end Sys2Proof.Laws.EncodesItsRow
end

