-- ==== Sys2Proof/Tests/Slice0.lean ====
section
/-! SUPPORT. Tests with expected results from spec/95_test_vectors.md, and for every statement with
hypotheses a state and operands that meet them. -/

namespace Sys2Proof.Tests

open Sys2Proof.Machine Sys2Proof.Safety

/-! ### Helpers -/

/-- Every channel configured, `MODE = OFF`, the host about to issue. -/
def idle : State where
  cnt    := 10
  ph     := 0
  mode   := .off
  fault  := none
  tcfg   := true
  cfg    := ⟨true, true, true⟩
  stage  := ⟨10, 5, 15⟩
  latch  := ⟨10, 5, 15⟩
  active := ⟨10, 5, 15⟩
  logq   := []
  turn     := ⟨.host, false, false⟩
  schedule := []
  drawn    := 0
  calls    := []
  stepSize := 5

/-- Nothing configured. -/
def fresh : State := { idle with tcfg := false, cfg := ⟨false, false, false⟩ }

/-- The sequencer at a slot, about to perform its operation. -/
def runningAt (p : Slot) : State := { idle with ph := p, mode := .run, turn := ⟨.sequencer, false, false⟩ }

/-- A state whose next moves are given. -/
def withMoves (ms : List Move) (s : State) : State := { s with schedule := ms }

/-- The next state, if there is one. -/
def nextOf : Result → Option State
  | .next s => some s
  | _       => none

/-- The refusal, if there is one. -/
def refusalOf : Result → Option Refusal
  | .refused r => some r
  | _          => none

/-- A tick with a boundary between slots 1 and 2, a dropped `tick_due`, and a boundary and a held
turn in the wait. -/
def sampleTick : TickMoves :=
  ⟨[.sequencer false, .sequencer false, .pwmBoundary, .sequencer false, .tickDue, .sequencer false,
    .sequencer false, .sequencer false, .sequencer false, .sequencer false],
   [.sequencer true, .pwmBoundary]⟩

/-! ### Decoding (95_test_vectors.md 2.1) -/

theorem test_decode_one_word_of_each_operation :
    decode 0x1000 = .ok .cfgt ∧ decode 0x2800 = .ok (.cfgc 2) ∧ decode 0x3000 = .ok .init ∧
    decode 0x44C8 = .ok (.setd 1 200) ∧ decode 0x5400 = .ok (.setm 1) ∧
    decode 0x6C00 = .ok (.cmt 3) ∧ decode 0x7000 = .ok .log ∧ decode 0x8000 = .ok .adv ∧
    decode 0x9000 = .ok .wait := by decide

/-- Written bit by bit from R60: `OP`, `CH`, `Z`, `VAL` of `SETD BLUE, 256`. -/
theorem test_decode_fields_in_place :
    decode ((0x4 : BitVec 4) ++ (2 : BitVec 2) ++ (0 : BitVec 1) ++ (256 : BitVec 9)) =
      .ok (.setd 2 256) ∧
    decode ((0x6 : BitVec 4) ++ (1 : BitVec 2) ++ (0 : BitVec 10)) = .ok (.cmt 1) := by decide

theorem test_decode_setd_extremes :
    decode 0x4000 = .ok (.setd 0 0) ∧ decode 0x41FF = .ok (.setd 0 511) ∧
    decode 0x4DFF = .ok (.setd 3 511) := by decide

theorem test_decode_reserved_words :
    decode 0x0FFF = .error .opcode ∧ decode 0xA000 = .error .opcode ∧
    decode 0xF000 = .error .opcode ∧ decode 0x1800 = .error .formatN ∧
    decode 0x3400 = .error .formatN ∧ decode 0x7001 = .error .formatN ∧
    decode 0x8800 = .error .formatN ∧ decode 0x9FFF = .error .formatN ∧
    decode 0x2001 = .error .formatC ∧ decode 0x5001 = .error .formatC ∧
    decode 0x6200 = .error .formatC ∧ decode 0x4200 = .error .formatV := by decide

theorem test_decodeTableWord :
    decodeTableWord 16 0x48C8 = some (.setd 2 200) ∧ decodeTableWord 16 0x1001 = none ∧
    decodeTableWord 32 0x10000 = none := by decide

theorem test_bytes_most_significant_first :
    decodeBytes [0x48, 0xC8, 0x90] = some (.ok (.setd 2 200), [0x90]) ∧
    encodeBytes (.cmt 1) = [0x64, 0x00] := by decide

/-- The record of counter 20 (P1 of part 3), most significant byte first. -/
theorem test_record_bytes :
    recordBytes (recordOf 20) = [0x14, 0x28, 0x14, 0x3C] ∧
    readRecord [0x5A, 0xB4, 0x5A, 0x0E, 0x90] = some (0x5AB45A0E, [0x90]) ∧
    readRecord [0x5A, 0xB4, 0x5A] = none := by decide

/-! ### Lines of assembler (R67, R68): ill-formed ones are refused by each check -/

theorem test_wellFormed_operandCount :
    (SourceLine.mk .cfgt [.name .red]).error = some .operandCount ∧
    (SourceLine.mk .cfgc []).error = some .operandCount ∧
    (SourceLine.mk .setd [.name .red]).error = some .operandCount := by decide

theorem test_wellFormed_channelOperand :
    (SourceLine.mk .cmt [.numeral 4]).error = some .channelOperand ∧
    (SourceLine.mk .setd [.numeral 4, .numeral 0]).error = some .channelOperand ∧
    (SourceLine.mk .cmt [.numeral 3]).error = none := by decide

theorem test_wellFormed_valueOperand :
    (SourceLine.mk .setd [.name .blue, .numeral 512]).error = some .valueOperand ∧
    (SourceLine.mk .setd [.name .blue, .name .red]).error = some .valueOperand ∧
    (SourceLine.mk .setd [.name .blue, .numeral 511]).error = none := by decide

theorem test_pseudo_operation_lines :
    (SourceLine.mk .apply [.name .blue]).assemble = some [.setm 2, .cmt 2] ∧
    (SourceLine.mk .boot []).assemble = some [.cfgt, .cfgc 0, .cfgc 1, .cfgc 2, .init] ∧
    (SourceLine.mk .tick [.name .red]).assemble = none := by decide

theorem test_parse_examples :
    (parseLine "SETD BLUE, 200").bind SourceLine.assemble = some [.setd 2 200] ∧
    (parseLine "CFGC GREEN").bind SourceLine.assemble = some [.cfgc 1] ∧
    (parseLine "SETD 3, 0x1FF").bind SourceLine.assemble = some [.setd 3 511] ∧
    (parseLine "BOOT").bind SourceLine.assemble = some bootOps ∧
    parseLine "STOP" = none ∧ parseLine "CMT RED," = none := by decide

/-! ### Operations (95_test_vectors.md 2.3 to 2.9 and part 3) -/

theorem test_cfgt_once :
    nextOf (exec .cfgt fresh) = some { fresh with tcfg := true } ∧
    refusalOf (exec .cfgt idle) = some .timerAlreadyConfigured := by decide

theorem test_cfgc_blue :
    nextOf (exec (.cfgc 2) { fresh with tcfg := true }) = some { fresh with
      tcfg := true, cfg := ⟨false, false, true⟩, stage := ⟨10, 5, 0⟩, latch := ⟨10, 5, 0⟩,
      active := ⟨10, 5, 0⟩ } := by decide

theorem test_cfgc_refused :
    refusalOf (exec (.cfgc 0) fresh) = some .timerNotConfigured ∧
    refusalOf (exec (.cfgc 3) idle) = some .noSuchChannel ∧
    refusalOf (exec (.cfgc 0) idle) = some .channelAlreadyConfigured := by decide

theorem test_init_keeps_fault :
    (nextOf (exec .init { idle with fault := some ⟨.range, 2, .hostPort⟩ })).map
      (fun t => (t.cnt, t.ph, t.mode, faultBits t.fault)) = some (0, 0, .run, 0x1AF) := by decide

theorem test_setd_stages_only :
    (nextOf (exec (.setd 2 200) idle)).map (fun t => (t.stage, t.latch, t.fault)) =
      some (⟨10, 5, 200⟩, ⟨10, 5, 15⟩, none) := by decide

/-- P6 rows 6 and 7: the range fault is recorded, the later fault is not. -/
theorem test_setd_range_then_unconfigured :
    (nextOf (exec (.setd 2 256) { idle with cfg := ⟨false, false, true⟩ })).map
      (fun t => (faultBits t.fault, t.stage, t.mode)) = some (0x1AF, ⟨10, 5, 15⟩, .off) ∧
    (nextOf (exec (.setd 0 1) { idle with
      cfg := ⟨false, false, true⟩, fault := some ⟨.range, 2, .hostPort⟩ })).map
      (fun t => faultBits t.fault) = some 0x1AF := by decide

theorem test_setm_blue_at_130 :
    (nextOf (exec (.setm 2) { runningAt 4 with cnt := 130 })).map (fun t => (t.stage, t.ph)) =
      some (⟨10, 5, 134⟩, 5) := by decide

/-- P3: `SETM BLUE` at slot 4 of an unconfigured channel. -/
theorem test_setm_unconfigured :
    (nextOf (exec (.setm 2) { runningAt 4 with cfg := ⟨true, true, false⟩ })).map
      (fun t => (t.mode, t.ph, faultBits t.fault)) = some (.halt, 4, 0x164) := by decide

theorem test_cmt_latches :
    (nextOf (exec (.cmt 0) { runningAt 1 with stage := ⟨20, 5, 15⟩ })).map
      (fun t => (t.latch, t.active, t.ph)) = some (⟨20, 5, 15⟩, ⟨10, 5, 15⟩, 2) := by decide

/-- 2.8, slot 3: a rejected `CMT GREEN`. -/
theorem test_cmt_rejected :
    (nextOf (exec (.cmt 1) { runningAt 3 with
      stage := ⟨20, 10, 15⟩, latch := ⟨20, 5, 15⟩, turn := ⟨.sequencer, true, false⟩ })).map
      (fun t => (t.mode, t.ph, t.latch, faultBits t.fault)) =
      some (.halt, 3, ⟨20, 5, 15⟩, 0x1D3) := by decide

theorem test_log_at_90 :
    (nextOf (exec .log { runningAt 6 with cnt := 90 })).map (fun t => (t.logq, t.ph)) =
      some ([0x5AB45A0E], 7) := by decide

theorem test_adv_at_the_wrap :
    (nextOf (exec .adv { runningAt 7 with cnt := 250 })).map (·.cnt) = some 255 ∧
    (nextOf (exec .adv { runningAt 7 with cnt := 255 })).map (·.cnt) = some 0 := by decide

/-- P8: `ADV` with other step sizes. -/
theorem test_adv_other_steps :
    (nextOf (exec .adv { runningAt 7 with cnt := 200, stepSize := 100 })).map (·.cnt) = some 0 ∧
    (nextOf (exec .adv { runningAt 7 with cnt := 64, stepSize := 64 })).map (·.cnt) = some 128 ∧
    (nextOf (exec .adv { runningAt 7 with cnt := 0, stepSize := 255 })).map (·.cnt) = some 255 ∧
    (nextOf (exec .adv { runningAt 7 with cnt := 5, stepSize := 1 })).map (·.cnt) = some 6 := by decide

/-- P8: the logged counters of six ticks. -/
theorem test_counters_other_steps :
    (List.range 6).map (counterAt 64) = [0, 64, 128, 192, 0, 64] ∧
    (List.range 6).map (counterAt 100) = [0, 100, 200, 0, 100, 200] ∧
    (List.range 6).map (counterAt 128) = [0, 128, 0, 128, 0, 128] ∧
    (List.range 6).map (counterAt 255) = [0, 255, 0, 255, 0, 255] := by decide

theorem test_wait_needs_tick_due :
    nextOf (step (withMoves [.sequencer false] (runningAt 8))) = some (runningAt 8) ∧
    (nextOf (step (withMoves [.tickDue] (runningAt 8)))).map (·.ph) = some 0 := by decide

theorem test_tick_due_dropped :
    nextOf (step (withMoves [.tickDue] (runningAt 3))) = some (runningAt 3) := by decide

/-- 2.9: a boundary copies the configured channels only. -/
theorem test_boundary :
    (nextOf (step (withMoves [.pwmBoundary] { idle with
      cfg := ⟨true, true, false⟩, latch := ⟨20, 5, 99⟩ }))).map (·.active) =
      some ⟨20, 5, 15⟩ := by decide

theorem test_reset_event :
    (nextOf (step (withMoves [.reset] { runningAt 4 with
      fault := some ⟨.reject, 1, .slot 3⟩, logq := [0x050A050F] }))).map
      (fun t => (t.mode, t.ph, t.tcfg, t.cfg, faultBits t.fault, t.logq)) =
      some (.off, 0, false, ⟨false, false, false⟩, 0, [0x050A050F]) := rfl

/-- P7: refused words. -/
theorem test_host_port_refusals :
    refusalOf (step (withMoves [.host 0x0000 false] idle)) = some .reservedWord ∧
    refusalOf (step (withMoves [.host 0x7000 false] idle)) = some .wrongIssuer ∧
    refusalOf (step (withMoves [.host 0x4005 false] (runningAt 0))) = some .wrongMode := by decide

/-- The first step after reset with a word placed performs that word. -/
theorem test_withFetchWord :
    (nextOf (step (State.reset.withFetchWord 16 0x1000))).map (·.tcfg) = some true ∧
    (nextOf (step (State.reset.withFetchWord 16 0x9000))).map (fun t => (t.mode, t.ph)) =
      some (.run, 0) ∧
    (nextOf (step (State.reset.withFetchWord 16 0x7000))).map (fun t => (t.ph, t.logq.length)) =
      some (7, 1) ∧
    (nextOf (step (State.reset.withFetchWord 16 0x4DFF))).map (fun t => faultBits t.fault) =
      some 0x17F := by decide

theorem test_outputs :
    outputs { runningAt 3 with fault := some ⟨.reject, 1, .slot 3⟩, mode := .halt } =
      ⟨2, 0x1D3, [], ⟨10, 5, 15⟩⟩ := by decide

/-! ### Witnesses: encoding and arithmetic -/

/-- A channel operand by name, at the greatest numeral, and the greatest value. -/
theorem test_witness_AssemblerReadsBack :
    (Operand.name .red).isChannel = true ∧ (Operand.numeral 3).isChannel = true ∧ 511 ≤ 511 := by
  decide

theorem test_witness_DecodeEncodeAgree :
    decode 0x4DFF = .ok (.setd 3 511) ∧ decode 0x1000 = .ok .cfgt := by decide

theorem test_witness_DecodeFollowsOpcodeMap :
    decode 0x4DFF = .ok (.setd 3 511) ∧ Instr.row (.setd 0 0) ∈ opcodeTable ∧
    (Instr.row (.setd 0 0)).encodes 0x4DFF := by decide

/-- For `CounterClosedForm` and `CounterAdvance`. -/
theorem test_witness_CounterClosedForm : (1 : Byte) ≠ 0 ∧ (255 : Byte) ≠ 0 := by decide

/-! ### Witnesses: the boot operations -/

theorem test_witness_CfgtConfiguresTimer :
    (fresh.turn.issuer = .host ∧ fresh.mode = .off ∧ fresh.tcfg = false) ∧
    ¬ (idle.turn.issuer = .host ∧ idle.mode = .off ∧ idle.tcfg = false) := by decide

/-- Clauses 2 and 3 on ids 0, 2 and on id 3. -/
theorem test_witness_CfgcConfiguresChannel :
    (∀ c ∈ [Channel.red, .blue], channelOf c.id = some c ∧
      entry ({ fresh with tcfg := true } : State).cfg c = false) ∧
    ({ fresh with tcfg := true } : State).turn.issuer = .host ∧
    ({ fresh with tcfg := true } : State).mode = .off ∧ channelOf 3 = none := by decide

theorem test_witness_InitStartsLoop :
    (idle.turn.issuer = .host ∧ idle.mode = .off) ∧
    ¬ ((runningAt 0).turn.issuer = .host ∧ (runningAt 0).mode = .off) := by decide

/-! ### Witnesses: the latch operations -/

/-- At the greatest value in range, and at the least. -/
theorem test_witness_SetdStagesValue :
    idle.turn.issuer = .host ∧ idle.mode = .off ∧ channelOf 2 = some .blue ∧
    entry idle.cfg .blue = true ∧ (255 : Value).toNat ≤ 255 ∧ (0 : Value).toNat ≤ 255 ∧
    idle.turn.reject = false := by decide

/-- Each cause: id 3; a channel not configured; the least value out of range; a draw of 1. -/
theorem test_witness_SetdFaultTaken :
    idle.turn.issuer = .host ∧ idle.mode = .off ∧
    IsFirstCause .unconfigured (255 < (0 : Value).toNat) 3 idle ∧
    IsFirstCause .unconfigured (255 < (511 : Value).toNat) 0 fresh ∧
    IsFirstCause .range (255 < (256 : Value).toNat) 2 idle ∧
    IsFirstCause .reject (255 < (255 : Value).toNat) 0
      { idle with turn := ⟨.host, true, false⟩ } := by
  refine ⟨rfl, rfl, ?_, ?_, ⟨⟨.blue, by decide⟩, by decide⟩, ⟨.red, by decide⟩, by decide, rfl⟩
  · intro c h; cases c <;> cases h
  · intro c _; cases c <;> rfl

theorem test_witness_SetmStagesDuty :
    (runningAt 4).turn.issuer = .sequencer ∧ (runningAt 4).mode = .run ∧
    channelOf 2 = some .blue ∧ entry (runningAt 4).cfg .blue = true ∧
    (runningAt 4).turn.reject = false := by decide

theorem test_witness_SetmFaultTaken :
    (runningAt 0).turn.issuer = .sequencer ∧ (runningAt 0).mode = .run ∧
    IsFirstCause .unconfigured False 3 (runningAt 0) ∧
    IsFirstCause .reject False 0 { runningAt 0 with turn := ⟨.sequencer, true, false⟩ } := by
  refine ⟨rfl, rfl, ?_, ⟨.red, by decide⟩, id, rfl⟩
  intro c h; cases c <;> cases h

/-- For the sequencer and for the host. -/
theorem test_witness_CmtLatchesStage :
    channelOf 1 = some .green ∧
    (entry (runningAt 3).cfg .green = true ∧ (runningAt 3).turn.reject = false ∧
      (runningAt 3).turn.issuer = .sequencer ∧ (runningAt 3).mode = .run) ∧
    (entry idle.cfg .green = true ∧ idle.turn.reject = false ∧ idle.turn.issuer = .host ∧
      idle.mode = .off) := by decide

theorem test_witness_CmtFaultTaken :
    (IsFirstCause .reject False 1 { runningAt 3 with turn := ⟨.sequencer, true, false⟩ } ∧
      (runningAt 3).mode = .run) ∧
    (IsFirstCause .unconfigured False 3 idle ∧ idle.turn.issuer = .host ∧ idle.mode = .off) := by
  refine ⟨⟨⟨⟨.green, by decide⟩, id, rfl⟩, rfl⟩, ?_, rfl, rfl⟩
  intro c h; cases c <;> cases h

/-- For `LOG`, `ADV` and `WAIT`, admitted, refused, and with `tick_due` present and absent. -/
theorem test_witness_sequencer_operations :
    ¬ (idle.turn.issuer = .sequencer ∧ idle.mode = .run) ∧ (runningAt 6).turn.issuer = .sequencer ∧ (runningAt 6).mode = .run ∧
    (runningAt 6).turn.tickDue = false ∧
    ({ runningAt 8 with turn := ⟨.sequencer, false, true⟩ } : State).turn.tickDue = true := by decide

/-! ### Witnesses: admission and frames -/

/-- Every operation is admitted somewhere. -/
theorem test_witness_RefusedUnlessAdmitted :
    Admitted .cfgt fresh ∧ Admitted (.cfgc 2) { fresh with tcfg := true } ∧ Admitted .init idle ∧
    Admitted (.setd 3 511) idle ∧ Admitted (.setm 3) (runningAt 0) ∧ Admitted (.cmt 3) idle ∧
    Admitted (.cmt 0) (runningAt 1) ∧ Admitted .log (runningAt 6) ∧ Admitted .adv (runningAt 7) ∧
    Admitted .wait (runningAt 8) :=
  ⟨⟨rfl, rfl, rfl⟩, ⟨rfl, rfl, rfl, .blue, by decide⟩, ⟨rfl, rfl⟩, ⟨rfl, rfl⟩, ⟨rfl, rfl⟩,
    .inl ⟨rfl, rfl⟩, .inr ⟨rfl, rfl⟩, ⟨rfl, rfl⟩, ⟨rfl, rfl⟩, ⟨rfl, rfl⟩⟩

theorem test_witness_BootFrame :
    (nextOf (exec .cfgt fresh)).isSome ∧ (nextOf (exec (.cfgc 2) { fresh with tcfg := true })).isSome ∧
    (nextOf (exec .init idle)).isSome := by decide

theorem test_witness_LatchFrame :
    (nextOf (exec (.setd 2 255) idle)).isSome ∧ (nextOf (exec (.setm 2) (runningAt 4))).isSome ∧
    (nextOf (exec (.cmt 2) (runningAt 5))).isSome ∧ (nextOf (exec (.cmt 2) idle)).isSome ∧
    channelOf 2 ≠ some .red := by decide

theorem test_witness_SequencerFrame :
    (nextOf (exec .log (runningAt 6))).isSome ∧ (nextOf (exec .adv (runningAt 7))).isSome ∧
    (nextOf (exec .wait (runningAt 8))).isSome := by decide

theorem test_witness_OnlyLatchOperationsFault :
    ∃ t, exec (.setm 3) (runningAt 0) = .next t ∧
      (t.fault ≠ (runningAt 0).fault ∨ (t.mode = .halt ∧ (runningAt 0).mode ≠ .halt)) :=
  ⟨_, rfl, by decide⟩

/-! ### Witnesses: the step -/

theorem test_witness_StepRunsDecoded :
    (withMoves [.host 0x48C8 true] idle).schedule = .host 0x48C8 true :: [] ∧
    decode 0x48C8 = .ok (.setd 2 200) ∧
    (withMoves [.sequencer true] (runningAt 8)).schedule = .sequencer true :: [] ∧
    (runningAt 8).mode = .run ∧ decode (rom (runningAt 8).ph) = .ok .wait := by decide

theorem test_witness_ReservedWordRefused : ∀ i, decode 0x1001 ≠ .ok i := by
  intro i h; cases h

theorem test_witness_HostPortClosed :
    (runningAt 0).mode ≠ .off ∧ ({ runningAt 0 with mode := .halt } : State).mode ≠ .off := by decide

theorem test_witness_SequencerWordsRefusedOnHostPort :
    decode 0x7000 = .ok .log ∧ decode 0x8000 = .ok .adv ∧ decode 0x9000 = .ok .wait ∧
    decode 0x5C00 = .ok (.setm 3) := by decide

theorem test_witness_SequencerStuckOutsideRun :
    (withMoves [.sequencer false] idle).schedule = .sequencer false :: [] ∧ idle.mode ≠ .run ∧
    ({ runningAt 0 with mode := .halt } : State).mode ≠ .run := by decide

/-- At slot 8, at slot 7 and in `OFF`. -/
theorem test_witness_TickDueOnlyEndsWait :
    ((runningAt 8).mode = .run ∧ (runningAt 8).ph = 8) ∧
    ¬ ((runningAt 7).mode = .run ∧ (runningAt 7).ph = 8) ∧
    ¬ (idle.mode = .run ∧ idle.ph = 8) := by decide

theorem test_witness_BoundaryMakesLatchActive :
    (withMoves [.pwmBoundary] idle).schedule = .pwmBoundary :: [] ∧ idle.tcfg = true ∧
    fresh.tcfg = false := by decide

theorem test_witness_ResetClearsControl :
    (withMoves [.reset] (runningAt 4)).schedule = .reset :: [] := by decide

theorem test_witness_UnlistedMoveIsFree : idle.schedule = [] := by decide

/-! ### Witnesses: invariants -/

/-- A run after `BOOT` and the first two slots of the first tick. -/
def early : State := { runningAt 2 with
  cnt := 0, stage := ⟨0, 0, 0⟩, latch := ⟨0, 0, 0⟩, active := ⟨0, 0, 0⟩
  calls := (tickCalls 0).take 2, schedule := [.sequencer true] }

theorem test_witness_StepKeepsInvariants : RunInvariant early ∧ (nextOf (step early)).isSome := by
  refine ⟨⟨by decide, by decide, by decide, by simp [early, runningAt, SequencerFaulted, tickCalls],
    by decide, ?_, by decide, by decide, by decide, by decide, by decide, by decide, by decide,
    ?_, ?_, ?_, ?_⟩, by decide⟩
  · intro c _; cases c <;> rfl
  · intro _ h; cases h
  · intro _ h; cases h
  · intro h; cases h
  · intro h; cases h

theorem test_witness_StepKeepsFaultRecordTrue :
    FaultInvariant early ∧ (nextOf (step early)).isSome := by
  refine ⟨⟨by decide, ?_, ?_⟩, by decide⟩
  · intro f h; cases h
  · intro f p h; cases h

/-! ### Witnesses: whole-machine rules -/

/-- `INIT` from `OFF`, and a fault of the sequencer. -/
theorem test_witness_ModeTransitions :
    (nextOf (step (withMoves [.host 0x3000 false] idle))).map (·.mode) = some .run ∧
    (nextOf (step (withMoves [.sequencer true] (runningAt 5)))).map (·.mode) = some .halt := by decide

theorem test_witness_HaltLeftOnlyByReset :
    ∃ t, step (withMoves [.pwmBoundary] { runningAt 3 with mode := .halt }) = .next t ∧
      (takeMove (withMoves [.pwmBoundary] { runningAt 3 with mode := .halt })).1 ≠ .reset :=
  ⟨_, rfl, by decide⟩

theorem test_witness_FaultRecordSticky :
    ∃ t, step (withMoves [.host 0x4C05 false]
        { idle with fault := some ⟨.range, 2, .hostPort⟩ }) = .next t ∧
      (takeMove (withMoves [.host 0x4C05 false]
        { idle with fault := some ⟨.range, 2, .hostPort⟩ })).1 ≠ .reset :=
  ⟨_, rfl, by decide⟩

theorem test_witness_LogAppendOnly :
    ∃ t, step (withMoves [.sequencer false] (runningAt 6)) = .next t ∧ t.logq ≠ (runningAt 6).logq :=
  ⟨_, rfl, by decide⟩

theorem test_witness_CounterWriters :
    (∃ t, step (withMoves [.sequencer false] (runningAt 7)) = .next t ∧ t.cnt ≠ (runningAt 7).cnt) ∧
    (∃ t, step (withMoves [.host 0x3000 false] idle) = .next t ∧ t.cnt ≠ idle.cnt) :=
  ⟨⟨_, rfl, by decide⟩, ⟨_, rfl, by decide⟩⟩

theorem test_witness_PhaseOrder :
    (nextOf (step (withMoves [.tickDue] (runningAt 8)))).map (·.ph) = some 0 ∧
    (nextOf (step (withMoves [.sequencer false] (runningAt 7)))).map (·.ph) = some 8 := by decide

theorem test_witness_SingleWriterInRun :
    ∃ t, step (withMoves [.sequencer false] { runningAt 0 with cnt := 15 }) = .next t ∧
      t.stage ≠ (runningAt 0).stage := ⟨_, rfl, by decide⟩

theorem test_witness_ActiveWriters :
    (∃ t, step (withMoves [.pwmBoundary] { idle with latch := ⟨20, 5, 15⟩ }) = .next t ∧
      entry t.active .red ≠ entry idle.active .red) ∧
    (∃ t, step (withMoves [.host 0x2800 false] { fresh with tcfg := true }) = .next t ∧
      entry t.active .blue ≠ entry fresh.active .blue) :=
  ⟨⟨_, rfl, by decide⟩, ⟨_, rfl, by decide⟩⟩

theorem test_witness_CommitIsTheBarrier :
    ∃ t, step (withMoves [.sequencer false] { runningAt 1 with stage := ⟨20, 5, 15⟩ }) = .next t ∧
      entry t.latch .red ≠ entry (runningAt 1).latch .red := ⟨_, rfl, by decide⟩

/-! ### Witnesses: runs -/

theorem test_witness_BootSequence :
    fresh.mode = .off ∧ fresh.tcfg = false ∧ fresh.cfg = ⟨false, false, false⟩ ∧
    (withMoves (bootMoves ⟨true, false, true⟩ true true) fresh).schedule =
      bootMoves ⟨true, false, true⟩ true true ++ [] := by decide

theorem test_witness_MicroStepsRefineTick :
    TickStart (withMoves sampleTick.moves (runningAt 0)) ∧ sampleTick.quiet = true ∧
    (withMoves sampleTick.moves (runningAt 0)).schedule = sampleTick.moves ++ [] ∧
    sampleTick.boundaryInWait = true := ⟨⟨rfl, rfl, rfl, rfl⟩, by decide⟩

theorem test_witness_TicksGenerateClosedForm :
    TickStart { runningAt 0 with
      cnt := 0, schedule := tickSchedule [sampleTick, sampleTick] } ∧
    ({ runningAt 0 with cnt := 0 } : State).cnt = 0 ∧ (runningAt 0).stepSize ≠ 0 ∧
    (∀ m ∈ [sampleTick, sampleTick], m.quiet = true) := ⟨⟨rfl, rfl, rfl, rfl⟩, rfl, by decide⟩

/-- At the first slot and at the last that can fault. -/
theorem test_witness_FaultIsPrecise :
    TickStart (runningAt 0) ∧ quietWork 0 [] = true ∧ (0 : Slot).val = 0 ∧
    quietWork 5 [.sequencer false, .sequencer false, .pwmBoundary, .sequencer false,
      .sequencer false, .sequencer false] = true ∧ (5 : Slot).val = 5 ∧
    [Move.tickDue, .pwmBoundary].all passingMove = true :=
  ⟨⟨rfl, rfl, rfl, rfl⟩, by decide⟩

/-- BLUE at slot 4. -/
theorem test_witness_MissingChannelHaltsFirstTick :
    (runningAt 0).mode = .run ∧ (runningAt 0).ph = 0 ∧
    entry ({ runningAt 0 with cfg := ⟨true, true, false⟩ } : State).cfg .blue = false ∧
    (∀ c : Channel, c.id.toNat < Channel.blue.id.toNat →
      entry ({ runningAt 0 with cfg := ⟨true, true, false⟩ } : State).cfg c = true) ∧
    (4 : Slot).val = 2 * Channel.blue.id.toNat ∧
    quietWork 4 (List.replicate 4 (.sequencer false)) = true := by
  refine ⟨rfl, rfl, rfl, ?_, by decide, by decide⟩
  intro c h
  cases c
  · rfl
  · rfl
  · exact absurd h (by decide)

/-- RED at slot 0, with a dropped `tick_due` before it. -/
theorem test_witness_MissingChannelHaltsFirstTick_red :
    (runningAt 0).mode = .run ∧ (runningAt 0).ph = 0 ∧
    entry ({ runningAt 0 with cfg := ⟨false, true, true⟩ } : State).cfg .red = false ∧
    (∀ c : Channel, c.id.toNat < Channel.red.id.toNat →
      entry ({ runningAt 0 with cfg := ⟨false, true, true⟩ } : State).cfg c = true) ∧
    (0 : Slot).val = 2 * Channel.red.id.toNat ∧ quietWork 0 [] = true ∧
    [Move.tickDue].all passingMove = true := by
  refine ⟨rfl, rfl, rfl, ?_, by decide⟩
  intro c h
  exact absurd h (Nat.not_lt_zero _)

theorem test_witness_ActiveShowsMixedTriples :
    TickStart (withMoves sampleTick.moves { runningAt 0 with cnt := 15 }) ∧
    sampleTick.quiet = true ∧ (runningAt 0).latch = ⟨10, 5, 15⟩ ∧
    (runningAt 0).active = ⟨10, 5, 15⟩ := ⟨⟨rfl, rfl, rfl, rfl⟩, by decide⟩

end Sys2Proof.Tests
end

section
/-! PROOFS. The state's operations: what taking a move, each operation and each event does, said once;
the frames of R30, the writers of the registers, and what taking a fault writes. -/

namespace Sys2Proof.Machine

open Sys2Proof.Safety

/-! ### Taking a move leaves the block's registers -/

@[simp] theorem takeMove_cnt (s : State) : (takeMove s).2.cnt = s.cnt := by
  rw [takeMove_state]
@[simp] theorem takeMove_ph (s : State) : (takeMove s).2.ph = s.ph := by
  rw [takeMove_state]
@[simp] theorem takeMove_mode (s : State) : (takeMove s).2.mode = s.mode := by
  rw [takeMove_state]
@[simp] theorem takeMove_fault (s : State) : (takeMove s).2.fault = s.fault := by
  rw [takeMove_state]
@[simp] theorem takeMove_tcfg (s : State) : (takeMove s).2.tcfg = s.tcfg := by
  rw [takeMove_state]
@[simp] theorem takeMove_cfg (s : State) : (takeMove s).2.cfg = s.cfg := by
  rw [takeMove_state]
@[simp] theorem takeMove_stage (s : State) : (takeMove s).2.stage = s.stage := by
  rw [takeMove_state]
@[simp] theorem takeMove_latch (s : State) : (takeMove s).2.latch = s.latch := by
  rw [takeMove_state]
@[simp] theorem takeMove_active (s : State) : (takeMove s).2.active = s.active := by
  rw [takeMove_state]
@[simp] theorem takeMove_logq (s : State) : (takeMove s).2.logq = s.logq := by
  rw [takeMove_state]
@[simp] theorem takeMove_turn (s : State) : (takeMove s).2.turn = s.turn := by
  rw [takeMove_state]
@[simp] theorem takeMove_calls (s : State) : (takeMove s).2.calls = s.calls := by
  rw [takeMove_state]
@[simp] theorem takeMove_stepSize (s : State) : (takeMove s).2.stepSize = s.stepSize := by
  rw [takeMove_state]

/-! ### Completion and failure, by issuer -/

theorem complete_of_host {s : State} (h : s.turn.issuer = .host) : complete s = s := by
  simp [complete, h]

theorem complete_of_sequencer {s : State} (h : s.turn.issuer = .sequencer) :
    complete s = setPh (nextSlot s.ph) s := by
  simp [complete, h]

/-- A failed call of the host: `FAULT` and the record of calls (R136). -/
theorem failLatch_of_host {s : State} (h : s.turn.issuer = .host) (op : Instr)
    (value : Option Value) (ch : ChanId) (cause : Cause) :
    failLatch op value ch cause s =
      { s with fault := firstFault s.fault ⟨cause, ch, .hostPort⟩
               calls := s.calls ++ [⟨.host, op, value, some cause⟩] } := by
  simp [failLatch, raiseHardwareFault_host, recordCall, h]

/-- A failed call of the sequencer: `FAULT`, the halt, and the record of calls (R123). -/
theorem failLatch_of_sequencer {s : State} (h : s.turn.issuer = .sequencer) (op : Instr)
    (value : Option Value) (ch : ChanId) (cause : Cause) :
    failLatch op value ch cause s =
      { s with mode := .halt
               fault := firstFault s.fault ⟨cause, ch, .slot s.ph⟩
               calls := s.calls ++ [⟨.sequencer, op, value, some cause⟩] } := by
  simp [failLatch, raiseHardwareFault_sequencer, recordCall, h]

/-! ### What each operation does where it leads to a next state -/

theorem exec_cfgt_next {s t : State} : exec .cfgt s = .next t ↔
    s.turn.issuer = .host ∧ s.mode = .off ∧ s.tcfg = false ∧ t = setTcfg true s := by
  cases h : s.tcfg <;> simp [exec, execCfgt, hostOnly_next, h, @eq_comm _ t]

/-- Where it leads to a next state, `CFGC` zeroes the three duty registers of its channel (R81). -/
theorem exec_cfgc_next {ch : ChanId} {s t : State} : exec (.cfgc ch) s = .next t ↔
    s.turn.issuer = .host ∧ s.mode = .off ∧ s.tcfg = true ∧
      ∃ c, channelOf ch = some c ∧ entry s.cfg c = false ∧
        t = { s with cfg := setEntry s.cfg c true, stage := setEntry s.stage c 0,
                     latch := setEntry s.latch c 0, active := setEntry s.active c 0 } := by
  rcases hc : channelOf ch with _ | c
  · simp [exec, execCfgc, hostOnly_next, hc]
  · cases ht : s.tcfg <;> cases he : entry s.cfg c <;>
      simp [exec, execCfgc, hostOnly_next, configureChannel, setCfg, setStage, setLatch, setActive,
        Config.initialDuty, hc, ht, he, @eq_comm _ t]

theorem exec_init_next {s t : State} : exec .init s = .next t ↔
    s.turn.issuer = .host ∧ s.mode = .off ∧ t = setMode .run (setPh 0 (setCnt 0 s)) := by
  simp [exec, execInit, hostOnly_next, @eq_comm _ t]

theorem exec_log_next {s t : State} : exec .log s = .next t ↔
    s.turn.issuer = .sequencer ∧ s.mode = .run ∧
      t = setPh (nextSlot s.ph) (emit (recordOf s.cnt) s) := by
  simp +contextual [exec, execLog, sequencerOnly_next, complete_of_sequencer, @eq_comm _ t]

theorem exec_adv_next {s t : State} : exec .adv s = .next t ↔
    s.turn.issuer = .sequencer ∧ s.mode = .run ∧
      t = setPh (nextSlot s.ph) (setCnt (advance s.stepSize s.cnt) s) := by
  simp +contextual [exec, execAdv, sequencerOnly_next, complete_of_sequencer, @eq_comm _ t]

theorem exec_wait_next {s t : State} : exec .wait s = .next t ↔
    s.turn.issuer = .sequencer ∧ s.mode = .run ∧
      t = if s.turn.tickDue then setPh (nextSlot s.ph) s else s := by
  simp +contextual [exec, execWait, sequencerOnly_next, complete_of_sequencer, @eq_comm _ t]

/-- How a latch operation on id `ch` ends: with its write to the channel's entry, or with a fault,
which is `RANGE` only for the host (R91 to R94, R121). -/
inductive LatchEnds (op : Instr) (ch : ChanId) (write : Channel → State → State) (s : State) :
    State → Prop
  /-- The call succeeds. -/
  | done (c : Channel) (value : Option Value) (hc : channelOf ch = some c) :
      LatchEnds op ch write s
        (complete (write c (recordCall ⟨s.turn.issuer, op, value, none⟩ s)))
  /-- The call fails. -/
  | failed (cause : Cause) (value : Option Value)
      (hrange : cause = .range → s.turn.issuer = .host) :
      LatchEnds op ch write s (failLatch op value ch cause s)

theorem latchOperation_ends {op : Instr} {req : LatchRequest} {ch : ChanId}
    {write : Channel → State → State} {s : State}
    (hreq : requestOutOfRange req = true → s.turn.issuer = .host) :
    LatchEnds op ch write s (latchOperation op req ch write s) := by
  rcases latchOperation_cases op req ch write s with
    ⟨c, hc, -, -, -, h⟩ | ⟨cause, hcause, h⟩
  · exact h ▸ .done c _ hc
  · refine h ▸ .failed cause _ ?_
    rintro rfl
    exact hreq hcause.2

theorem exec_setd_next {ch : ChanId} {val : Value} {s t : State}
    (h : exec (.setd ch val) s = .next t) :
    s.turn.issuer = .host ∧ s.mode = .off ∧
      LatchEnds (.setd ch val) ch (fun c => setStage c (valueByte val)) s t := by
  obtain ⟨hi, hm, ht⟩ := hostOnly_next.1 h
  cases ht
  exact ⟨hi, hm, latchOperation_ends fun _ => hi⟩

theorem exec_setm_next {ch : ChanId} {s t : State} (h : exec (.setm ch) s = .next t) :
    s.turn.issuer = .sequencer ∧ s.mode = .run ∧
      LatchEnds (.setm ch) ch (fun c => setStage c (duty c s.cnt)) s t := by
  obtain ⟨hi, hm, ht⟩ := sequencerOnly_next.1 h
  cases ht
  refine ⟨hi, hm, ?_⟩
  split
  · exact .failed _ _ nofun
  · exact latchOperation_ends (by simp [requestOutOfRange])

theorem exec_cmt_next {ch : ChanId} {s t : State} (h : exec (.cmt ch) s = .next t) :
    ((s.turn.issuer = .host ∧ s.mode = .off) ∨
      (s.turn.issuer = .sequencer ∧ s.mode = .run)) ∧
      LatchEnds (.cmt ch) ch (fun c => setLatch c (entry s.stage c)) s t := by
  obtain ⟨hadmitted, ht⟩ := hostOrSequencer_next.1 h
  cases ht
  exact ⟨hadmitted, latchOperation_ends nofun⟩

/-! ### Slots of the micro-program -/

theorem channel_id_lt (c : Channel) : c.id.toNat < 3 := by cases c <;> decide

theorem channel_id_inj {c c' : Channel} (h : c.id.toNat = c'.id.toNat) : c = c' := by
  revert h; cases c <;> cases c' <;> decide

theorem slot_of_romOp_setm {p : Slot} {ch : ChanId} {c : Channel} (hc : channelOf ch = some c)
    (h : .setm ch = romOp p) : p.val = 2 * c.id.toNat := by
  rw [channelOf_eq_some_iff] at hc
  subst hc
  revert h p
  cases c <;> decide

theorem slot_of_romOp_cmt {p : Slot} {ch : ChanId} {c : Channel} (hc : channelOf ch = some c)
    (h : .cmt ch = romOp p) : p.val = 2 * c.id.toNat + 1 := by
  rw [channelOf_eq_some_iff] at hc
  subst hc
  revert h p
  cases c <;> decide

theorem slot_of_romOp_log {p : Slot} (h : .log = romOp p) : p = 6 := by revert p; decide
theorem slot_of_romOp_adv {p : Slot} (h : .adv = romOp p) : p = 7 := by revert p; decide
theorem slot_of_romOp_wait {p : Slot} (h : .wait = romOp p) : p = 8 := by revert p; decide

/-- The slots of the latch operations come before that of `LOG` (R66, R124). -/
theorem slot_of_latchOperation {p : Slot} (h : IsLatchOperation (romOp p)) : p.val ≤ 5 := by
  have hlast : ∀ p : Slot, 5 < p.val → p = 6 ∨ p = 7 ∨ p = 8 := by decide
  by_contra hp
  rcases hlast p (by omega) with rfl | rfl | rfl <;> exact h

/-! ### Events -/

/-- `pwm_boundary` writes `ACTIVE` only, from the latch of the configured channels (R95). -/
theorem pwmBoundaryEvent_active (s : State) : ∃ a, pwmBoundaryEvent s = { s with active := a } ∧
    ∀ c, entry a c =
      if s.tcfg = true ∧ entry s.cfg c = true then entry s.latch c else entry s.active c := by
  by_cases h : s.tcfg = true
  · refine ⟨_, if_pos h, ?_⟩
    intro c
    cases c <;> simp [entry, boundaryEntry, h] <;> rfl
  · exact ⟨s.active, if_neg h, by simp [h]⟩

/-- A predicate kept by every operation and every event is kept by every step. It must not depend
on the parameters of the operation and the moves to come; an operation of the sequencer is that of
its slot (R100). -/
theorem step_keeps {P : State → Prop} {s t : State}
    (hcontrol : ∀ s tn sch d, P s → P { s with turn := tn, schedule := sch, drawn := d })
    (hexec : ∀ i s t, P s → (s.turn.issuer = .sequencer → i = romOp s.ph) →
      exec i s = .next t → P t)
    (hboundary : ∀ s, P s → P (pwmBoundaryEvent s))
    (hreset : (takeMove s).1 = .reset → ∀ s, P s → P (resetEvent s))
    (hs : P s) (h : step s = .next t) : P t := by
  have htaken : P (takeMove s).2 := takeMove_state s ▸ hcontrol s s.turn _ _ hs
  have hturn (tn : Turn) : P (beginTurn tn (takeMove s).2) := hcontrol _ tn _ _ htaken
  rcases performMove_next h with ⟨w, r, i, -, -, he⟩ | ⟨r, -, -, he⟩ | ⟨-, hm, hp, rfl⟩ |
    ⟨rfl, -⟩ | ⟨-, rfl⟩ | ⟨hr, rfl⟩
  · exact hexec i _ t (hturn _) (by simp) he
  · exact hexec _ _ t (hturn ⟨.sequencer, r, false⟩) (fun _ => rfl) he
  · refine hexec .wait _ _ (hturn ⟨.sequencer, false, true⟩) ?_ (exec_wait_next.2 ⟨rfl, hm, ?_⟩)
    · exact fun _ => congrArg romOp hp.symm
    · exact congrArg (setPh · _) (congrArg nextSlot hp.symm)
  · exact htaken
  · exact hboundary _ htaken
  · exact hreset hr _ htaken

/-! ### Frames (R30) -/

/-- A write to an id's channel leaves the entries the id does not name (R41). -/
theorem entry_setEntry_other {α : Type} {ch : ChanId} {c c' : Channel} (hc : channelOf ch = some c)
    (hne : channelOf ch ≠ some c') (f : PerChannel α) (v : α) :
    entry (setEntry f c v) c' = entry f c' :=
  entry_setEntry_ne f v fun heq => hne (heq ▸ hc)

/-- Settles O26, by the next state of each boot operation. -/
theorem bootFrame : Obligations.BootFrame := by
  intro s t
  refine ⟨fun h => ?_, fun ch h => ?_, fun h => ?_⟩
  · obtain ⟨-, -, -, rfl⟩ := exec_cfgt_next.1 h
    rfl
  · obtain ⟨-, -, -, c, hc, -, rfl⟩ := exec_cfgc_next.1 h
    exact ⟨rfl, fun c' hne => ⟨entry_setEntry_other hc hne _ _, entry_setEntry_other hc hne _ _,
      entry_setEntry_other hc hne _ _, entry_setEntry_other hc hne _ _⟩⟩
  · obtain ⟨-, -, rfl⟩ := exec_init_next.1 h
    rfl

/-- A latch operation performs its write to its channel or none, and beside it only `PH`, `MODE`,
`FAULT` and the record of calls change; from the host neither `PH` nor `MODE` (R30). -/
theorem LatchEnds.frame {op : Instr} {ch : ChanId} {write : Channel → State → State} {s t : State}
    (hcall : ∀ c call s', write c (recordCall call s') = recordCall call (write c s'))
    (hturn : ∀ c s', (write c s').turn = s'.turn) (h : LatchEnds op ch write s t) :
    ∃ w, (w = s ∨ ∃ c, channelOf ch = some c ∧ w = write c s) ∧
      t = { w with ph := t.ph, mode := t.mode, fault := t.fault, calls := t.calls } ∧
      (s.turn.issuer = .host → t.ph = w.ph ∧ t.mode = w.mode) := by
  cases h with
  | done c value hc =>
    refine ⟨write c s, .inr ⟨c, hc, rfl⟩, ?_⟩
    rw [hcall]
    cases hi : s.turn.issuer
    · rw [complete_of_host (by simp [hturn, hi])]
      exact ⟨rfl, fun _ => ⟨rfl, rfl⟩⟩
    · rw [complete_of_sequencer (by simp [hturn, hi])]
      exact ⟨rfl, nofun⟩
  | failed cause value _ =>
    refine ⟨s, .inl rfl, ?_⟩
    cases hi : s.turn.issuer
    · rw [failLatch_of_host hi]
      exact ⟨rfl, fun _ => ⟨rfl, rfl⟩⟩
    · rw [failLatch_of_sequencer hi]
      exact ⟨rfl, nofun⟩

theorem LatchEnds.stage_frame {op : Instr} {ch : ChanId} {v : Channel → Byte} {s t : State}
    (h : LatchEnds op ch (fun c => setStage c (v c)) s t) :
    t = { s with stage := t.stage, ph := t.ph, mode := t.mode, fault := t.fault,
                 calls := t.calls } ∧
    (∀ c, channelOf ch ≠ some c → entry t.stage c = entry s.stage c) ∧
    (s.turn.issuer = .host → t.ph = s.ph ∧ t.mode = s.mode) := by
  obtain ⟨w, rfl | ⟨c, hc, rfl⟩, hframe, hhost⟩ := h.frame (by intros; rfl) (by intros; rfl)
  · exact ⟨by rw [hframe], fun _ _ => by rw [hframe], hhost⟩
  · exact ⟨by rw [hframe]; rfl, fun _ hne => by rw [hframe]; exact entry_setEntry_other hc hne _ _,
      hhost⟩

theorem LatchEnds.latch_frame {op : Instr} {ch : ChanId} {v : Channel → Byte} {s t : State}
    (h : LatchEnds op ch (fun c => setLatch c (v c)) s t) :
    t = { s with latch := t.latch, ph := t.ph, mode := t.mode, fault := t.fault,
                 calls := t.calls } ∧
    (∀ c, channelOf ch ≠ some c → entry t.latch c = entry s.latch c) ∧
    (s.turn.issuer = .host → t.ph = s.ph ∧ t.mode = s.mode) := by
  obtain ⟨w, rfl | ⟨c, hc, rfl⟩, hframe, hhost⟩ := h.frame (by intros; rfl) (by intros; rfl)
  · exact ⟨by rw [hframe], fun _ _ => by rw [hframe], hhost⟩
  · exact ⟨by rw [hframe]; rfl, fun _ hne => by rw [hframe]; exact entry_setEntry_other hc hne _ _,
      hhost⟩

/-- Settles O27, by the frames of staging and latching. -/
theorem latchFrame : Obligations.LatchFrame := by
  intro s t ch
  refine ⟨fun val h => ?_, fun h => ?_, fun h => ?_⟩
  · obtain ⟨hi, -, hends⟩ := exec_setd_next h
    obtain ⟨hframe, hother, hhost⟩ := hends.stage_frame
    obtain ⟨hph, hmode⟩ := hhost hi
    rw [hph, hmode] at hframe
    exact ⟨hframe, hother⟩
  · obtain ⟨-, -, hends⟩ := exec_setm_next h
    obtain ⟨hframe, hother, -⟩ := hends.stage_frame
    exact ⟨hframe, hother⟩
  · exact (exec_cmt_next h).2.latch_frame

/-- Settles O28, by the next state of each operation. -/
theorem sequencerFrame : Obligations.SequencerFrame := by
  intro s t
  refine ⟨fun h => ?_, fun h => ?_, fun h => ?_⟩
  · obtain ⟨-, -, rfl⟩ := exec_log_next.1 h
    rfl
  · obtain ⟨-, -, rfl⟩ := exec_adv_next.1 h
    rfl
  · obtain ⟨-, -, rfl⟩ := exec_wait_next.1 h
    split <;> rfl

/-! ### The writers of `CNT`, `STEP`, `LOGQ` and `ACTIVE` -/

/-- Which operation writes `CNT`, `STEP`, `LOGQ` and `ACTIVE`, and what it leaves there. -/
structure ExecWrites (i : Instr) (s t : State) : Prop where
  stepSize : t.stepSize = s.stepSize
  cnt : t.cnt = s.cnt ∨ (i = .init ∧ t.cnt = 0) ∨
    (i = .adv ∧ t.cnt = advance s.stepSize s.cnt)
  logq : t.logq = s.logq ∨ (i = .log ∧ t.logq = s.logq ++ [recordOf s.cnt])
  active : t.active = s.active ∨ ∃ c : Channel, i = .cfgc c.id ∧ t.active = setEntry s.active c 0

theorem exec_writes {i : Instr} {s t : State} (h : exec i s = .next t) : ExecWrites i s t := by
  cases i with
  | cfgt =>
    rw [(bootFrame s t).1 h]
    exact ⟨rfl, .inl rfl, .inl rfl, .inl rfl⟩
  | cfgc ch =>
    obtain ⟨-, -, -, c, hc, -, rfl⟩ := exec_cfgc_next.1 h
    rw [channelOf_eq_some_iff] at hc
    exact ⟨rfl, .inl rfl, .inl rfl, .inr ⟨c, hc ▸ rfl, rfl⟩⟩
  | init =>
    obtain ⟨-, -, rfl⟩ := exec_init_next.1 h
    exact ⟨rfl, .inr (.inl ⟨rfl, rfl⟩), .inl rfl, .inl rfl⟩
  | setd ch val =>
    rw [((latchFrame s t ch).1 val h).1]
    exact ⟨rfl, .inl rfl, .inl rfl, .inl rfl⟩
  | setm ch =>
    rw [((latchFrame s t ch).2.1 h).1]
    exact ⟨rfl, .inl rfl, .inl rfl, .inl rfl⟩
  | cmt ch =>
    rw [((latchFrame s t ch).2.2 h).1]
    exact ⟨rfl, .inl rfl, .inl rfl, .inl rfl⟩
  | log =>
    obtain ⟨-, -, rfl⟩ := exec_log_next.1 h
    exact ⟨rfl, .inl rfl, .inr ⟨rfl, rfl⟩, .inl rfl⟩
  | adv =>
    obtain ⟨-, -, rfl⟩ := exec_adv_next.1 h
    exact ⟨rfl, .inr (.inr ⟨rfl, rfl⟩), .inl rfl, .inl rfl⟩
  | wait =>
    rw [(sequencerFrame s t).2.2 h]
    exact ⟨rfl, .inl rfl, .inl rfl, .inl rfl⟩

/-! ### The fault record -/

/-- What taking a fault writes (R17, R123, R136): the first fault wins, the failure is recorded, and
a fault of the sequencer, never `RANGE`, halts it at its slot. -/
structure FaultTaken (cause : Cause) (i : Instr) (s t : State) : Prop where
  latchOperation : IsLatchOperation i
  fault : t.fault = firstFault s.fault ⟨cause, channelOperand i, faultSlot s⟩
  failure : firstFailure t.calls =
    (firstFailure s.calls).or (some (cause, channelOperand i))
  range_host : cause = .range → s.turn.issuer = .host
  halts : s.turn.issuer = .sequencer → t.mode = .halt ∧ t.ph = s.ph

/-- No fault taken: the record and the first failure stand. -/
def FaultKept (s t : State) : Prop :=
  t.fault = s.fault ∧ firstFailure t.calls = firstFailure s.calls

theorem firstFailure_append (cs : List LatchCall) (c : LatchCall) : firstFailure (cs ++ [c]) =
    (firstFailure cs).or (c.result.map fun cause => (cause, channelOperand c.op)) := by
  induction cs with
  | nil => cases h : c.result <;> simp [firstFailure, h]
  | cons d cs ih => cases h : d.result <;> simp [firstFailure, h, ih]

theorem LatchEnds.fault_cases {op : Instr} {write : Channel → State → State} {s t : State}
    (hop : IsLatchOperation op) (hfault : ∀ c s', (write c s').fault = s'.fault)
    (hcalls : ∀ c s', (write c s').calls = s'.calls)
    (h : LatchEnds op (channelOperand op) write s t) :
    FaultKept s t ∨ ∃ cause, FaultTaken cause op s t := by
  cases h with
  | done c value hc =>
    exact .inl ⟨by simp [hfault], by simp [hcalls, firstFailure_append]⟩
  | failed cause value hrange =>
    refine .inr ⟨cause, hop, ?_, ?_, hrange, ?_⟩ <;> cases hi : s.turn.issuer <;>
      simp [failLatch_of_host, failLatch_of_sequencer, faultSlot, firstFailure_append, hi]

/-- Every operation keeps the fault record, or is a latch operation that takes a fault (R120). -/
theorem exec_fault_cases {i : Instr} {s t : State} (h : exec i s = .next t) :
    FaultKept s t ∨ ∃ cause, FaultTaken cause i s t := by
  cases i with
  | cfgt =>
    rw [(bootFrame s t).1 h]
    exact .inl ⟨rfl, rfl⟩
  | cfgc ch =>
    rw [((bootFrame s t).2.1 ch h).1]
    exact .inl ⟨rfl, rfl⟩
  | init =>
    rw [(bootFrame s t).2.2 h]
    exact .inl ⟨rfl, rfl⟩
  | setd ch val => exact (exec_setd_next h).2.2.fault_cases trivial (by simp) (by simp)
  | setm ch => exact (exec_setm_next h).2.2.fault_cases trivial (by simp) (by simp)
  | cmt ch => exact (exec_cmt_next h).2.fault_cases trivial (by simp) (by simp)
  | log =>
    rw [(sequencerFrame s t).1 h]
    exact .inl ⟨rfl, rfl⟩
  | adv =>
    rw [(sequencerFrame s t).2.1 h]
    exact .inl ⟨rfl, rfl⟩
  | wait =>
    rw [(sequencerFrame s t).2.2 h]
    exact .inl ⟨rfl, rfl⟩

/-- No operation is performed in `HALT` (R65, R100). -/
theorem mode_ne_halt_of_exec_next {i : Instr} {s t : State} (h : exec i s = .next t) :
    s.mode ≠ .halt := by
  cases i with
  | cfgt => simp [(exec_cfgt_next.1 h).2.1]
  | cfgc ch => simp [(exec_cfgc_next.1 h).2.1]
  | init => simp [(exec_init_next.1 h).2.1]
  | setd ch val => simp [(exec_setd_next h).2.1]
  | setm ch => simp [(exec_setm_next h).2.1]
  | cmt ch => rcases (exec_cmt_next h).1 with ⟨-, hm⟩ | ⟨-, hm⟩ <;> simp [hm]
  | log => simp [(exec_log_next.1 h).2.1]
  | adv => simp [(exec_adv_next.1 h).2.1]
  | wait => simp [(exec_wait_next.1 h).2.1]

end Sys2Proof.Machine
end

section
/-! PROOFS. The counter's sum and the invariants of R29: regrouped by `MODE` and by channel, kept by
every operation and event, and so by every step. -/

namespace Sys2Proof.Safety

open Sys2Proof.Machine

/-! ### The counter's arithmetic -/

theorem sum_toNat (step cnt : Byte) : (sum step cnt).toNat = cnt.toNat + step.toNat := by
  have hs := step.isLt
  have hc := cnt.isLt
  simp only [sum, BitVec.toNat_add, BitVec.toNat_setWidth]
  omega

theorem sumExceeds_eq_decide (step cnt : Byte) :
    sumExceeds step cnt = decide (255 < cnt.toNat + step.toNat) := by
  simp [sumExceeds, sum_toNat, Config.cntLimit]

theorem advance_toNat (step cnt : Byte) : (advance step cnt).toNat =
    if cnt.toNat + step.toNat > 255 then 0 else cnt.toNat + step.toNat := by
  unfold advance
  rw [sumExceeds_eq_decide]
  by_cases h : 255 < cnt.toNat + step.toNat
  · simp [h]
  · simp [h, sum_toNat, Nat.mod_eq_of_lt (show cnt.toNat + step.toNat < 256 by omega)]

/-- The wrap test is bit 8 of the sum (R102, R109). -/
theorem sumExceeds_eq_bit (step cnt : Byte) :
    sumExceeds step cnt = (sum step cnt).getLsbD 8 := by
  have hlt := (sum step cnt).isLt
  rw [sumExceeds_eq_decide, ← sum_toNat, BitVec.getLsbD, Nat.testBit_eq_decide_div_mod_eq]
  congr 1
  simp only [eq_iff_iff]
  omega

/-- Settles O10: the 9-bit sum of two bytes does not overflow, so all clauses speak of its value. -/
theorem counterAdvance : Obligations.CounterAdvance := by
  intro step cnt
  have hs := step.isLt
  have hc := cnt.isLt
  have hsum := sum_toNat step cnt
  refine ⟨rfl, hsum, fun hne => ?_, by omega, sumExceeds_eq_bit step cnt, advance_toNat step cnt⟩
  have : step.toNat ≠ 0 := fun h => hne (BitVec.eq_of_toNat_eq h)
  omega

theorem entry_dutyTriple (n : Byte) (c : Channel) : entry (dutyTriple n) c = duty c n := by
  cases c <;> rfl

/-! ### The invariants of R29, by `MODE` -/

/-- R29 (b). -/
def CounterInRange (s : State) : Prop :=
  s.stepSize.toNat ∣ s.cnt.toNat ∧ s.cnt.toNat ≤ s.stepSize.toNat * (255 / s.stepSize.toNat)

/-- R29 (e). -/
def TimerBeforeChannels (s : State) : Prop := ∀ c, entry s.cfg c = true → s.tcfg = true

/-- R29 (f), before the first latch call. -/
def DutiesUntouched (s : State) : Prop :=
  s.calls = [] → ∀ c, entry s.cfg c = true →
    entry s.stage c = 0 ∧ entry s.latch c = 0 ∧ entry s.active c = 0

/-- R29 (f), for a channel by its id: channel `c` is staged in slot `2 c` and latched in slot
`2 c + 1` (R66). -/
structure TickProgress (s : State) : Prop where
  staged : ∀ c : Channel, 2 * c.id.toNat + 1 ≤ s.ph.val → s.ph.val ≤ 7 →
    entry s.stage c = duty c s.cnt
  latched : ∀ c : Channel, 2 * c.id.toNat + 2 ≤ s.ph.val → s.ph.val ≤ 7 →
    entry s.latch c = duty c s.cnt
  logged : s.ph.val = 7 → s.logq.getLast? = some (recordOf s.cnt)
  settled_wait : s.ph.val = 8 → Settled s
  settled_start : s.ph.val = 0 → OnlyHostCalls s ∨ Settled s

/-- The clauses of R29 that speak of one `MODE`. -/
def ModeClauses (s : State) : Mode → Prop
  | .off  => OnlyHostCalls s
  | .run  => CounterInRange s ∧ ¬ SequencerFaulted s ∧ TickProgress s
  | .halt => CounterInRange s ∧ SequencerFaulted s ∧ s.fault ≠ none

theorem not_sequencerFaulted_of_onlyHostCalls {s : State} (h : OnlyHostCalls s) :
    ¬ SequencerFaulted s := by
  rintro ⟨c, hc, hi, -⟩
  simp [h c hc] at hi

theorem RunInvariant.tickProgress {s : State} (h : RunInvariant s) (hm : s.mode = .run) :
    TickProgress s where
  staged
    | .red => h.staged_red hm
    | .green => h.staged_green hm
    | .blue => h.staged_blue hm
  latched
    | .red => h.latched_red hm
    | .green => h.latched_green hm
    | .blue => h.latched_blue hm
  logged := h.logged hm
  settled_wait := h.settled_wait hm
  settled_start := h.settled_start hm

theorem runInvariant_iff (s : State) : RunInvariant s ↔
    s.stepSize ≠ 0 ∧ TimerBeforeChannels s ∧ DutiesUntouched s ∧ ModeClauses s s.mode := by
  constructor
  · intro h
    refine ⟨h.step_positive, h.configured_timer, h.untouched, ?_⟩
    cases hm : s.mode with
    | off => exact h.off_host_calls hm
    | run =>
      refine ⟨⟨h.counter_multiple (by simp [hm]), h.counter_bounded (by simp [hm])⟩, ?_,
        h.tickProgress hm⟩
      simp [← h.halted_iff, hm]
    | halt =>
      exact ⟨⟨h.counter_multiple (by simp [hm]), h.counter_bounded (by simp [hm])⟩,
        h.halted_iff.1 hm, h.halted_valid hm⟩
  · rintro ⟨hstep, htimer, huntouched, hmode⟩
    have hcounter : s.mode ≠ .off → CounterInRange s := by
      cases hm : s.mode <;> simp_all [ModeClauses]
    have hhalted : s.mode = .halt ↔ SequencerFaulted s := by
      cases hm : s.mode <;> simp_all [ModeClauses, not_sequencerFaulted_of_onlyHostCalls]
    have hvalid : s.mode = .halt → s.fault ≠ none := by
      intro hm; simp_all [ModeClauses]
    have htick : s.mode = .run → TickProgress s := by
      intro hm; simp_all [ModeClauses]
    have hoff : s.mode = .off → OnlyHostCalls s := by
      intro hm; simp_all [ModeClauses]
    exact
      { step_positive := hstep
        counter_multiple := fun hm => (hcounter hm).1
        counter_bounded := fun hm => (hcounter hm).2
        halted_iff := hhalted
        halted_valid := hvalid
        configured_timer := htimer
        staged_red := fun hm => (htick hm).staged .red
        staged_green := fun hm => (htick hm).staged .green
        staged_blue := fun hm => (htick hm).staged .blue
        latched_red := fun hm => (htick hm).latched .red
        latched_green := fun hm => (htick hm).latched .green
        latched_blue := fun hm => (htick hm).latched .blue
        logged := fun hm => (htick hm).logged
        settled_wait := fun hm => (htick hm).settled_wait
        settled_start := fun hm => (htick hm).settled_start
        off_host_calls := hoff
        untouched := huntouched }

theorem runInvariant_of_off {s : State} (hm : s.mode = .off) : RunInvariant s ↔
    s.stepSize ≠ 0 ∧ TimerBeforeChannels s ∧ DutiesUntouched s ∧ OnlyHostCalls s := by
  rw [runInvariant_iff, hm, ModeClauses]

theorem runInvariant_of_run {s : State} (hm : s.mode = .run) : RunInvariant s ↔
    s.stepSize ≠ 0 ∧ TimerBeforeChannels s ∧ DutiesUntouched s ∧
      CounterInRange s ∧ ¬ SequencerFaulted s ∧ TickProgress s := by
  rw [runInvariant_iff, hm, ModeClauses]

theorem runInvariant_of_halt {s : State} (hm : s.mode = .halt) : RunInvariant s ↔
    s.stepSize ≠ 0 ∧ TimerBeforeChannels s ∧ DutiesUntouched s ∧
      CounterInRange s ∧ SequencerFaulted s ∧ s.fault ≠ none := by
  rw [runInvariant_iff, hm, ModeClauses]

/-- The clauses of a `MODE` read neither `ACTIVE` nor the parameters of the operation and the moves
to come. -/
theorem ModeClauses.of_unread {s : State} {m : Mode} (h : ModeClauses s m)
    (active : PerChannel Byte) (turn : Turn) (schedule : List Move) (drawn : Nat) :
    ModeClauses { s with active := active, turn := turn, schedule := schedule, drawn := drawn } m := by
  cases m with
  | off => exact h
  | run =>
    obtain ⟨hcounter, hfault, htick⟩ := h
    exact ⟨hcounter, hfault, htick.staged, htick.latched, htick.logged, htick.settled_wait,
      htick.settled_start⟩
  | halt => exact h

/-! ### Operations keep the invariants of R29 -/

theorem onlyHostCalls_append {s t : State} {c : LatchCall} (hc : t.calls = s.calls ++ [c]) :
    OnlyHostCalls t ↔ OnlyHostCalls s ∧ c.issuer = .host := by
  simp [OnlyHostCalls, hc, or_imp, forall_and]

theorem sequencerFaulted_append {s t : State} {c : LatchCall} (hc : t.calls = s.calls ++ [c]) :
    SequencerFaulted t ↔ SequencerFaulted s ∨ (c.issuer = .sequencer ∧ c.result ≠ none) := by
  simp [SequencerFaulted, hc, or_and_right, exists_or]

theorem dutiesUntouched_append {s t : State} {c : LatchCall} (hc : t.calls = s.calls ++ [c]) :
    DutiesUntouched t := by
  simp [DutiesUntouched, hc]

/-- Adding `STEP` with the wrap keeps the counter a bounded multiple of `STEP` (R102, R107). -/
theorem advance_inRange {step cnt : Byte} (hstep : step ≠ 0) (hdvd : step.toNat ∣ cnt.toNat) :
    step.toNat ∣ (advance step cnt).toNat ∧
      (advance step cnt).toNat ≤ step.toNat * (255 / step.toNat) := by
  rw [advance_toNat]
  split
  · simp
  · have hsum : step.toNat ∣ cnt.toNat + step.toNat := Nat.dvd_add_self_right.2 hdvd
    refine ⟨hsum, ?_⟩
    obtain ⟨k, hk⟩ := hsum
    rw [hk]
    refine Nat.mul_le_mul_left _ ?_
    have hpos : 0 < step.toNat := by
      simpa [Nat.pos_iff_ne_zero, ← BitVec.toNat_inj] using hstep
    exact (Nat.le_div_iff_mul_le hpos).2 (by rw [Nat.mul_comm]; omega)

/-- In `OFF` a latch call of the host keeps the invariants, whatever it does to the duties and to
`FAULT`. -/
theorem runInvariant_hostCall {s : State} (h : RunInvariant s) (hm : s.mode = .off)
    {call : LatchCall} (hcall : call.issuer = .host) (stage latch : PerChannel Byte)
    (fault : Option FaultRecord) :
    RunInvariant { s with stage := stage, latch := latch, fault := fault,
                          calls := s.calls ++ [call] } := by
  exact (runInvariant_of_off (by exact hm)).2 ⟨h.step_positive, h.configured_timer,
    dutiesUntouched_append rfl, (onlyHostCalls_append rfl).2 ⟨h.off_host_calls hm, hcall⟩⟩

/-- A failed latch call of the sequencer keeps the invariants. -/
theorem runInvariant_sequencerFault {op : Instr} {value : Option Value} {ch : ChanId}
    {cause : Cause} {s : State} (h : RunInvariant s) (hm : s.mode = .run)
    (hi : s.turn.issuer = .sequencer) : RunInvariant (failLatch op value ch cause s) := by
  rw [failLatch_of_sequencer hi]
  obtain ⟨hstep, htimer, -, hcounter, -⟩ := (runInvariant_of_run hm).1 h
  refine (runInvariant_of_halt rfl).2 ⟨hstep, htimer, dutiesUntouched_append rfl, hcounter,
    (sequencerFaulted_append rfl).2 (.inr ⟨rfl, by simp⟩), ?_⟩
  cases s.fault <;> simp [firstFault]

/-- `SETM` of the slot's channel carries the tick one slot further (R93). -/
theorem TickProgress.stage_next {s : State} (h : TickProgress s) {c : Channel}
    (hslot : s.ph.val = 2 * c.id.toNat) (call : LatchCall) : TickProgress
      (setPh (nextSlot s.ph) (setStage c (duty c s.cnt) (recordCall call s))) := by
  have hlt := channel_id_lt c
  have hnext : (nextSlot s.ph).val = 2 * c.id.toNat + 1 := by
    rw [nextSlot_val_of_lt (by omega), hslot]
  constructor <;> simp only [setPh_ph, hnext]
  case staged =>
    intro c' hc' _
    by_cases heq : c' = c
    · simp [heq]
    · have hne : c'.id.toNat ≠ c.id.toNat := fun hid => heq (channel_id_inj hid)
      simpa [entry_setEntry_ne _ _ heq] using h.staged c' (by omega) (by omega)
  case latched =>
    intro c' hc' _
    exact h.latched c' (by omega) (by omega)
  all_goals intros; omega

/-- `CMT` of the slot's channel, staged by the slot before, carries the tick one slot further
(R94). -/
theorem TickProgress.latch_next {s : State} (h : TickProgress s) {c : Channel}
    (hslot : s.ph.val = 2 * c.id.toNat + 1) (call : LatchCall) : TickProgress
      (setPh (nextSlot s.ph) (setLatch c (entry s.stage c) (recordCall call s))) := by
  have hlt := channel_id_lt c
  have hnext : (nextSlot s.ph).val = 2 * c.id.toNat + 2 := by
    rw [nextSlot_val_of_lt (by omega), hslot]
  constructor <;> simp only [setPh_ph, hnext]
  case staged =>
    intro c' hc' _
    exact h.staged c' (by omega) (by omega)
  case latched =>
    intro c' hc' _
    by_cases heq : c' = c
    · simpa [heq] using h.staged c (by omega) (by omega)
    · have hne : c'.id.toNat ≠ c.id.toNat := fun hid => heq (channel_id_inj hid)
      simpa [entry_setEntry_ne _ _ heq] using h.latched c' (by omega) (by omega)
  all_goals intros; omega

/-- `LOG` at slot 6 finds every duty staged and latched, and leaves the record of the tick (R101). -/
theorem TickProgress.log_next {s : State} (h : TickProgress s) (hslot : s.ph = 6) :
    TickProgress (setPh (nextSlot s.ph) (emit (recordOf s.cnt) s)) := by
  have hph : s.ph.val = 6 := by simp [hslot]
  have hnext : (nextSlot s.ph).val = 7 := by simp [hslot, nextSlot]
  constructor <;> simp only [setPh_ph, hnext]
  case staged =>
    intro c _ _
    have hlt := channel_id_lt c
    exact h.staged c (by omega) (by omega)
  case latched =>
    intro c _ _
    have hlt := channel_id_lt c
    exact h.latched c (by omega) (by omega)
  case logged => simp
  all_goals intros; omega

/-- At slot 7 the tick has staged, latched and logged the triple of the counter; `ADV` settles it
(R102). -/
theorem TickProgress.settled_of_adv {s : State} (h : TickProgress s) (hslot : s.ph = 7) :
    Settled (setPh (nextSlot s.ph) (setCnt (advance s.stepSize s.cnt) s)) := by
  have hph : s.ph.val = 7 := by simp [hslot]
  refine ⟨s.cnt, h.logged hph, rfl, entry_ext fun c => ?_, entry_ext fun c => ?_⟩
  · have hlt := channel_id_lt c
    exact (h.staged c (by omega) (by omega)).trans (entry_dutyTriple _ c).symm
  · have hlt := channel_id_lt c
    exact (h.latched c (by omega) (by omega)).trans (entry_dutyTriple _ c).symm

/-- At slot 8 the settled latch is all R29 (f) asks. -/
theorem TickProgress.of_settled_wait {s : State} (hslot : s.ph.val = 8) (h : Settled s) :
    TickProgress s := by
  constructor
  case settled_wait => exact fun _ => h
  all_goals intros; omega

/-- At slot 0 the settled latch, or no latch call of the sequencer yet, is all R29 (f) asks. -/
theorem TickProgress.of_settled_start {s : State} (hslot : s.ph.val = 0)
    (h : OnlyHostCalls s ∨ Settled s) : TickProgress s := by
  constructor
  case settled_start => exact fun _ => h
  all_goals intros; omega

/-- A successful latch call of the sequencer keeps the invariants where it carries the tick on. -/
theorem runInvariant_sequencerCall {s t : State} (h : RunInvariant s) (hm : s.mode = .run)
    {call : LatchCall} (hcall : call.result = none) {ph : Slot} {stage latch : PerChannel Byte}
    (ht : t = { s with ph := ph, stage := stage, latch := latch, calls := s.calls ++ [call] })
    (htick : TickProgress t) : RunInvariant t := by
  obtain ⟨hstep, htimer, -, hcounter, hfault, -⟩ := (runInvariant_of_run hm).1 h
  subst ht
  exact (runInvariant_of_run (by exact hm)).2 ⟨hstep, htimer, dutiesUntouched_append rfl, hcounter,
    fun hfailed => ((sequencerFaulted_append rfl).1 hfailed).elim hfault fun hc => hc.2 hcall,
    htick⟩

/-- A micro-operation that makes no latch call keeps the invariants where it keeps the counter in
range and carries the tick on. -/
theorem runInvariant_microOperation {s t : State} (h : RunInvariant s) (hm : s.mode = .run)
    {cnt : Byte} {ph : Slot} {logq : List Record}
    (ht : t = { s with cnt := cnt, ph := ph, logq := logq })
    (hcounter : CounterInRange t) (htick : TickProgress t) : RunInvariant t := by
  obtain ⟨hstep, htimer, huntouched, -, hfault, -⟩ := (runInvariant_of_run hm).1 h
  subst ht
  exact (runInvariant_of_run (by exact hm)).2 ⟨hstep, htimer, huntouched, hcounter, hfault, htick⟩

theorem RunInvariant.counterInRange {s : State} (h : RunInvariant s) (hm : s.mode ≠ .off) :
    CounterInRange s := ⟨h.counter_multiple hm, h.counter_bounded hm⟩

section Operations

variable {s t : State} (h : RunInvariant s)
include h

theorem exec_cfgt_keeps_runInvariant (he : exec .cfgt s = .next t) : RunInvariant t := by
  obtain ⟨-, hm, -, rfl⟩ := exec_cfgt_next.1 he
  obtain ⟨hstep, -, huntouched, hcalls⟩ := (runInvariant_of_off hm).1 h
  exact (runInvariant_of_off (by exact hm)).2 ⟨hstep, fun _ _ => rfl, huntouched, hcalls⟩

theorem exec_cfgc_keeps_runInvariant {ch : ChanId} (he : exec (.cfgc ch) s = .next t) :
    RunInvariant t := by
  obtain ⟨-, hm, htcfg, c, -, -, rfl⟩ := exec_cfgc_next.1 he
  obtain ⟨hstep, -, huntouched, honly⟩ := (runInvariant_of_off hm).1 h
  refine (runInvariant_of_off (by exact hm)).2
    ⟨hstep, fun _ _ => htcfg, fun hcalls c' hcfg => ?_, honly⟩
  by_cases heq : c' = c
  · simp [heq]
  · simp only [entry_setEntry_ne _ _ heq] at hcfg ⊢
    exact huntouched hcalls c' hcfg

theorem exec_init_keeps_runInvariant (he : exec .init s = .next t) : RunInvariant t := by
  obtain ⟨-, hm, rfl⟩ := exec_init_next.1 he
  obtain ⟨hstep, htimer, huntouched, hcalls⟩ := (runInvariant_of_off hm).1 h
  refine (runInvariant_of_run rfl).2 ⟨hstep, htimer, huntouched, ?_,
    not_sequencerFaulted_of_onlyHostCalls hcalls, .of_settled_start rfl (.inl hcalls)⟩
  simp [CounterInRange]

theorem exec_setd_keeps_runInvariant {ch : ChanId} {val : Value}
    (he : exec (.setd ch val) s = .next t) : RunInvariant t := by
  obtain ⟨hi, hm, hends⟩ := exec_setd_next he
  cases hends with
  | done c value hc =>
    rw [complete_of_host (by exact hi)]
    exact runInvariant_hostCall h hm hi _ s.latch s.fault
  | failed cause value _ =>
    rw [failLatch_of_host hi]
    exact runInvariant_hostCall h hm rfl s.stage s.latch _

theorem exec_setm_keeps_runInvariant {ch : ChanId} (hrom : .setm ch = romOp s.ph)
    (he : exec (.setm ch) s = .next t) : RunInvariant t := by
  obtain ⟨hi, hm, hends⟩ := exec_setm_next he
  cases hends with
  | done c value hc =>
    rw [complete_of_sequencer (by exact hi)]
    exact runInvariant_sequencerCall h hm rfl (latch := s.latch) rfl
      ((h.tickProgress hm).stage_next (slot_of_romOp_setm hc hrom) _)
  | failed cause value _ => exact runInvariant_sequencerFault h hm hi

theorem exec_cmt_keeps_runInvariant {ch : ChanId}
    (hrom : s.turn.issuer = .sequencer → .cmt ch = romOp s.ph)
    (he : exec (.cmt ch) s = .next t) : RunInvariant t := by
  obtain ⟨⟨hi, hm⟩ | ⟨hi, hm⟩, hends⟩ := exec_cmt_next he
  · cases hends with
    | done c value hc =>
      rw [complete_of_host (by exact hi)]
      exact runInvariant_hostCall h hm hi s.stage _ s.fault
    | failed cause value _ =>
      rw [failLatch_of_host hi]
      exact runInvariant_hostCall h hm rfl s.stage s.latch _
  · cases hends with
    | done c value hc =>
      rw [complete_of_sequencer (by exact hi)]
      exact runInvariant_sequencerCall h hm rfl (stage := s.stage) rfl
        ((h.tickProgress hm).latch_next (slot_of_romOp_cmt hc (hrom hi)) _)
    | failed cause value _ => exact runInvariant_sequencerFault h hm hi

theorem exec_log_keeps_runInvariant (hrom : .log = romOp s.ph) (he : exec .log s = .next t) :
    RunInvariant t := by
  obtain ⟨-, hm, rfl⟩ := exec_log_next.1 he
  exact runInvariant_microOperation h hm (cnt := s.cnt) rfl (h.counterInRange (by simp [hm]))
    ((h.tickProgress hm).log_next (slot_of_romOp_log hrom))

theorem exec_adv_keeps_runInvariant (hrom : .adv = romOp s.ph) (he : exec .adv s = .next t) :
    RunInvariant t := by
  obtain ⟨-, hm, rfl⟩ := exec_adv_next.1 he
  have hslot := slot_of_romOp_adv hrom
  refine runInvariant_microOperation h hm (logq := s.logq) rfl
    (advance_inRange h.step_positive (h.counter_multiple (by simp [hm]))) ?_
  exact .of_settled_wait (by simp [hslot, nextSlot]) ((h.tickProgress hm).settled_of_adv hslot)

theorem exec_wait_keeps_runInvariant (hrom : .wait = romOp s.ph) (he : exec .wait s = .next t) :
    RunInvariant t := by
  obtain ⟨-, hm, rfl⟩ := exec_wait_next.1 he
  have hslot := slot_of_romOp_wait hrom
  split
  · refine runInvariant_microOperation h hm (cnt := s.cnt) (logq := s.logq) rfl
      (h.counterInRange (by simp [hm])) (.of_settled_start (by simp [hslot]) (.inr ?_))
    exact h.settled_wait hm (by simp [hslot])
  · exact h

end Operations

/-- Every operation, the sequencer's at its slot, keeps the invariants of R29. -/
theorem exec_keeps_runInvariant (i : Instr) (s t : State) (h : RunInvariant s)
    (hrom : s.turn.issuer = .sequencer → i = romOp s.ph) (he : exec i s = .next t) :
    RunInvariant t := by
  cases i with
  | cfgt => exact exec_cfgt_keeps_runInvariant h he
  | cfgc ch => exact exec_cfgc_keeps_runInvariant h he
  | init => exact exec_init_keeps_runInvariant h he
  | setd ch val => exact exec_setd_keeps_runInvariant h he
  | setm ch => exact exec_setm_keeps_runInvariant h (hrom (exec_setm_next he).1) he
  | cmt ch => exact exec_cmt_keeps_runInvariant h hrom he
  | log => exact exec_log_keeps_runInvariant h (hrom (exec_log_next.1 he).1) he
  | adv => exact exec_adv_keeps_runInvariant h (hrom (exec_adv_next.1 he).1) he
  | wait => exact exec_wait_keeps_runInvariant h (hrom (exec_wait_next.1 he).1) he

/-- An unconfigured block in `OFF` with no call recorded meets the invariants of R29. -/
theorem runInvariant_of_unconfigured {s : State} (hstep : s.stepSize ≠ 0) (hm : s.mode = .off)
    (hcfg : s.cfg = ⟨false, false, false⟩) (hcalls : s.calls = []) : RunInvariant s := by
  have hnone (c : Channel) : entry s.cfg c ≠ true := by cases c <;> simp [hcfg, entry]
  refine (runInvariant_of_off hm).2
    ⟨hstep, fun c hc => absurd hc (hnone c), fun _ c hc => absurd hc (hnone c), ?_⟩
  simp [OnlyHostCalls, hcalls]

theorem pwmBoundaryEvent_keeps_runInvariant {s : State} (h : RunInvariant s) :
    RunInvariant (pwmBoundaryEvent s) := by
  obtain ⟨a, hs, ha⟩ := pwmBoundaryEvent_active s
  obtain ⟨hstep, htimer, huntouched, hmode⟩ := (runInvariant_iff s).1 h
  rw [hs]
  refine (runInvariant_iff _).2
    ⟨hstep, htimer, fun hcalls c hcfg => ?_, hmode.of_unread a s.turn s.schedule s.drawn⟩
  obtain ⟨hstage, hlatch, -⟩ := huntouched hcalls c hcfg
  exact ⟨hstage, hlatch, by rw [ha, if_pos ⟨htimer c hcfg, hcfg⟩, hlatch]⟩

/-- Settles O41: `step_keeps` with the invariant lemma of every operation and event. -/
theorem stepKeepsInvariants : Obligations.StepKeepsInvariants := by
  intro s t hs hstep
  refine step_keeps (fun s tn sch d h => ?_) exec_keeps_runInvariant
    (fun s => pwmBoundaryEvent_keeps_runInvariant) (fun _ s h => ?_) hs hstep
  · obtain ⟨hstep, htimer, huntouched, hmode⟩ := (runInvariant_iff s).1 h
    exact (runInvariant_iff _).2
      ⟨hstep, htimer, huntouched, hmode.of_unread s.active tn sch d⟩
  · exact runInvariant_of_unconfigured h.step_positive rfl rfl rfl

end Sys2Proof.Safety
end

section
/-! PROOFS. The rules over every step: who writes `LOGQ`, `CNT`, `ACTIVE` and `FAULT`, the state after
power-on, and that nothing reads `ACTIVE`. -/

namespace Sys2Proof.Safety

open Sys2Proof.Machine

/-! ### The writers of `LOGQ`, `CNT` and `ACTIVE`, over every step -/

/-- Settles O46: `LOG` alone writes `LOGQ`, it is the sequencer's, and it stands at slot 6. -/
theorem logAppendOnly : Obligations.LogAppendOnly := by
  intro s t h
  rcases performMove_next h with ⟨w, r, i, -, -, he⟩ | ⟨r, hmove, hm, he⟩ | ⟨-, -, -, rfl⟩ |
    ⟨rfl, -⟩ | ⟨-, rfl⟩ | ⟨-, rfl⟩
  · rcases (exec_writes he).logq with hsame | ⟨rfl, -⟩
    · exact .inl (by simpa using hsame)
    · exact absurd (exec_log_next.1 he).1 (by simp)
  · rcases (exec_writes he).logq with hsame | ⟨hop, hlog⟩
    · exact .inl (by simpa using hsame)
    · exact .inr ⟨⟨r, hmove⟩, by simpa using hm, by simpa using slot_of_romOp_log hop.symm,
        by simpa using hlog⟩
  all_goals exact .inl (by simp)

/-- Settles O47: `INIT` is the host's in `OFF`, `ADV` the sequencer's at slot 7. -/
theorem counterWriters : Obligations.CounterWriters := by
  intro s t h
  rcases performMove_next h with ⟨w, r, i, hmove, hd, he⟩ | ⟨r, hmove, hm, he⟩ |
    ⟨-, -, -, rfl⟩ | ⟨rfl, -⟩ | ⟨-, rfl⟩ | ⟨hmove, rfl⟩
  · refine ⟨by simpa using (exec_writes he).stepSize, fun hne => ?_⟩
    rcases (exec_writes he).cnt with hsame | ⟨rfl, hzero⟩ | ⟨rfl, -⟩
    · exact absurd (by simpa using hsame) hne
    · obtain ⟨-, hm, -⟩ := exec_init_next.1 he
      exact .inr (.inl ⟨⟨w, r, hmove, hd⟩, by simpa using hm, hzero⟩)
    · exact absurd (exec_adv_next.1 he).1 (by simp)
  · refine ⟨by simpa using (exec_writes he).stepSize, fun hne => ?_⟩
    rcases (exec_writes he).cnt with hsame | ⟨hop, -⟩ | ⟨hop, hadv⟩
    · exact absurd (by simpa using hsame) hne
    · rw [hop] at he
      exact absurd (exec_init_next.1 he).1 (by simp)
    · exact .inr (.inr ⟨⟨r, hmove⟩, by simpa using hm, by simpa using slot_of_romOp_adv hop.symm,
        by simpa using hadv⟩)
  · exact ⟨by simp, fun hne => absurd (by simp) hne⟩
  · exact ⟨by simp, fun hne => absurd (by simp) hne⟩
  · exact ⟨by simp, fun hne => absurd (by simp) hne⟩
  · exact ⟨by simp, fun _ => .inl hmove⟩

/-- Settles O50: of the operations only the host's `CFGC` writes `ACTIVE`, of the events
`pwm_boundary` and `RESET`. -/
theorem activeWriters : Obligations.ActiveWriters := by
  intro s t c h hne
  rcases performMove_next h with ⟨w, r, i, hmove, hd, he⟩ | ⟨r, hmove, hm, he⟩ |
    ⟨-, -, -, rfl⟩ | ⟨rfl, -⟩ | ⟨hmove, rfl⟩ | ⟨hmove, rfl⟩
  · rcases (exec_writes he).active with hsame | ⟨c', rfl, hzero⟩
    · exact absurd (by simp [hsame]) hne
    · obtain ⟨-, hm, -⟩ := exec_cfgc_next.1 he
      have heq : c = c' := by
        by_contra hcc
        exact hne (by simp [hzero, entry_setEntry_ne _ _ hcc])
      subst heq
      exact .inr (.inr ⟨⟨w, r, hmove, hd⟩, by simpa using hm, by simp [hzero]⟩)
  · rcases (exec_writes he).active with hsame | ⟨c', hop, -⟩
    · exact absurd (by simp [hsame]) hne
    · rw [hop] at he
      exact absurd (exec_cfgc_next.1 he).1 (by simp)
  · exact absurd (by simp) hne
  · exact absurd (by simp) hne
  · obtain ⟨a, ht, ha⟩ := pwmBoundaryEvent_active (takeMove s).2
    have hac : entry a c ≠ entry s.active c := by simpa [ht] using hne
    have hentry := ha c
    split at hentry
    · next hcfg =>
      exact .inr (.inl ⟨hmove, by simpa using hcfg.1, by simpa using hcfg.2,
        by simpa [ht] using hentry⟩)
    · exact absurd (by simpa using hentry) hac
  · exact .inl hmove

/-! ### The fault record, over every step -/

/-- Settles O45: whoever faults later, the first fault wins. -/
theorem faultRecordSticky : Obligations.FaultRecordSticky := by
  intro s t f hf h hmove
  refine step_keeps (P := fun s => s.fault = some f) (fun _ _ _ _ hs => hs) ?_
    (fun s hs => by simpa using hs) (fun hreset => absurd hreset hmove) hf h
  intro i s t hs _ he
  rcases exec_fault_cases he with ⟨hkept, -⟩ | ⟨cause, htaken⟩
  · rw [hkept, hs]
  · rw [htaken.fault, hs, firstFault]

/-- Outside `HALT` a recorded fault is the host's (R123). -/
theorem FaultInvariant.slot_hostPort {s : State} (h : FaultInvariant s) (hm : s.mode ≠ .halt)
    {f : FaultRecord} (hf : s.fault = some f) : f.slot = .hostPort := by
  cases hslot : f.slot with
  | slot p => exact absurd (h.slot_is_phase f p hf hslot).1 hm
  | hostPort => rfl

/-- An operation that takes no fault keeps what `FAULT` says. -/
theorem faultInvariant_of_kept {s t : State} (h : FaultInvariant s) (hm : s.mode ≠ .halt)
    (hkept : FaultKept s t) : FaultInvariant t := by
  obtain ⟨hfault, hfirst⟩ := hkept
  refine ⟨by rw [hfault, hfirst, h.first_failure], ?_, ?_⟩
  · intro f hf
    exact h.range_from_host f (hfault ▸ hf)
  · intro f p hf hp
    simp [h.slot_hostPort hm (hfault ▸ hf)] at hp

/-- Taking a fault outside `HALT`, the sequencer's at a slot of a latch operation, keeps what `FAULT`
says. -/
theorem faultInvariant_of_taken {cause : Cause} {i : Instr} {s t : State} (h : FaultInvariant s)
    (hm : s.mode ≠ .halt) (hslot : s.turn.issuer = .sequencer → s.ph.val ≤ 5)
    (htaken : FaultTaken cause i s t) : FaultInvariant t := by
  obtain ⟨-, hfault, hfailure, hrange, hhalts⟩ := htaken
  have hfirst := h.first_failure
  rcases hs : s.fault with _ | old
  · rw [hs] at hfault hfirst
    refine ⟨by simp [hfault, hfailure, ← hfirst, firstFault], ?_, ?_⟩
    · rintro f hf hcause
      obtain rfl : _ = f := Option.some.inj (hfault.symm.trans hf)
      simp [faultSlot, hrange hcause]
    · rintro f p hf hp
      obtain rfl : _ = f := Option.some.inj (hfault.symm.trans hf)
      cases hi : s.turn.issuer
      · simp [faultSlot, hi] at hp
      · obtain ⟨hhalt, hph⟩ := hhalts hi
        obtain rfl : s.ph = p := by simpa [faultSlot, hi] using hp
        exact ⟨hhalt, hph, hslot hi⟩
  · rw [hs] at hfault hfirst
    have hold := h.slot_hostPort hm hs
    refine ⟨by simp [hfault, hfailure, ← hfirst, firstFault], ?_, ?_⟩
    · rintro f hf -
      obtain rfl : old = f := Option.some.inj (hfault.symm.trans hf)
      exact hold
    · rintro f p hf hp
      obtain rfl : old = f := Option.some.inj (hfault.symm.trans hf)
      simp [hold] at hp

/-- A block with no fault and no call recorded meets what `FAULT` says. -/
theorem faultInvariant_of_no_fault {s : State} (hf : s.fault = none) (hcalls : s.calls = []) :
    FaultInvariant s := by
  constructor <;> simp [hf, hcalls, firstFailure]

/-- Settles O42: an operation keeps the record or takes a fault, and is not performed in `HALT`. -/
theorem stepKeepsFaultRecordTrue : Obligations.StepKeepsFaultRecordTrue := by
  intro s t hs hstep
  refine step_keeps ?_ ?_ ?_ (fun _ s _ => faultInvariant_of_no_fault rfl rfl) hs hstep
  · exact fun s tn sch d h => ⟨h.first_failure, h.range_from_host, h.slot_is_phase⟩
  · intro i s t h hrom he
    have hm := mode_ne_halt_of_exec_next he
    rcases exec_fault_cases he with hkept | ⟨cause, htaken⟩
    · exact faultInvariant_of_kept h hm hkept
    · exact faultInvariant_of_taken h hm
        (fun hi => slot_of_latchOperation (hrom hi ▸ htaken.latchOperation)) htaken
  · intro s h
    obtain ⟨a, ht, -⟩ := pwmBoundaryEvent_active s
    exact ht ▸ ⟨h.first_failure, h.range_from_host, h.slot_is_phase⟩

/-! ### Power-on -/

/-- Settles O38, by the fields of the state after power-on. -/
theorem powerOnState : Obligations.PowerOnState :=
  ⟨rfl, rfl, rfl, fun c => by cases c <;> rfl, rfl, rfl, rfl⟩

/-- Settles O40: after power-on nothing is configured and nothing has been called. -/
theorem powerOnMeetsInvariants : Obligations.PowerOnMeetsInvariants :=
  ⟨runInvariant_of_unconfigured (by decide) rfl rfl rfl, faultInvariant_of_no_fault rfl rfl⟩

/-! ### Nothing reads `ACTIVE` -/

theorem complete_withActive (s : State) (a : PerChannel Byte) :
    complete { s with active := a } = { complete s with active := a } := by
  cases hi : s.turn.issuer <;> simp [complete, setPh, hi]

theorem failLatch_withActive (op : Instr) (value : Option Value) (ch : ChanId) (cause : Cause)
    (s : State) (a : PerChannel Byte) : failLatch op value ch cause { s with active := a } =
      { failLatch op value ch cause s with active := a } := by
  cases hi : s.turn.issuer <;> simp [failLatch_of_host, failLatch_of_sequencer, hi]

theorem latchOperation_withActive (op : Instr) (req : LatchRequest) (ch : ChanId)
    {write : Channel → State → State} {a : PerChannel Byte}
    (hwrite : ∀ c s, write c { s with active := a } = { write c s with active := a }) (s : State) :
    latchOperation op req ch write { s with active := a } =
      { latchOperation op req ch write s with active := a } := by
  have hcheck : latchCheck req ch { s with active := a } = latchCheck req ch s := rfl
  unfold latchOperation
  rw [hcheck]
  cases latchCheck req ch s with
  | error cause => exact failLatch_withActive ..
  | ok c =>
    exact (congrArg complete (hwrite c (recordCall _ s))).trans (complete_withActive ..)

theorem hideActive_hostOnly {r r' : Result} (h : hideActive r = hideActive r') (s : State)
    (a : PerChannel Byte) :
    hideActive (hostOnly { s with active := a } r) = hideActive (hostOnly s r') := by
  unfold hostOnly
  by_cases hi : s.turn.issuer = .host <;> by_cases hm : s.mode = .off <;> simp [hi, hm, h]

theorem hideActive_sequencerOnly {r r' : Result} (h : hideActive r = hideActive r') (s : State)
    (a : PerChannel Byte) :
    hideActive (sequencerOnly { s with active := a } r) = hideActive (sequencerOnly s r') := by
  unfold sequencerOnly
  by_cases hi : s.turn.issuer = .sequencer <;> by_cases hm : s.mode = .run <;> simp [hi, hm, h]

theorem hideActive_hostOrSequencer {r r' : Result} (h : hideActive r = hideActive r') (s : State)
    (a : PerChannel Byte) :
    hideActive (hostOrSequencer { s with active := a } r) = hideActive (hostOrSequencer s r') := by
  unfold hostOrSequencer
  cases hi : s.turn.issuer
  · simpa [hi] using hideActive_hostOnly h s a
  · simpa [hi] using hideActive_sequencerOnly h s a

theorem hideActive_next_congr {t t' : State} {a : PerChannel Byte} (h : t' = { t with active := a }) :
    hideActive (.next t') = hideActive (.next t) := h ▸ rfl

/-- No operation reads `ACTIVE`: it writes it or leaves it (R30). -/
theorem exec_hideActive (i : Instr) (s : State) (a : PerChannel Byte) :
    hideActive (exec i { s with active := a }) = hideActive (exec i s) := by
  cases i with
  | cfgt =>
    refine hideActive_hostOnly ?_ s a
    cases s.tcfg <;> rfl
  | cfgc ch =>
    refine hideActive_hostOnly ?_ s a
    rcases channelOf ch with _ | c
    · rfl
    · simp only [apply_ite hideActive]
      rfl
  | init =>
    refine hideActive_hostOnly ?_ s a
    rfl
  | setd ch val =>
    refine hideActive_hostOnly ?_ s a
    exact hideActive_next_congr (latchOperation_withActive _ _ _ (by intros; rfl) s)
  | setm ch =>
    refine hideActive_sequencerOnly ?_ s a
    rcases channelOf ch with _ | c
    · exact hideActive_next_congr (failLatch_withActive (.setm ch) none ch .unconfigured s a)
    · dsimp only
      exact hideActive_next_congr (latchOperation_withActive _ _ _ (by intros; rfl) s)
  | cmt ch =>
    refine hideActive_hostOrSequencer ?_ s a
    exact hideActive_next_congr (latchOperation_withActive _ _ _ (by intros; rfl) s)
  | log =>
    refine hideActive_sequencerOnly ?_ s a
    exact hideActive_next_congr (complete_withActive (emit (recordOf s.cnt) s) a)
  | adv =>
    refine hideActive_sequencerOnly ?_ s a
    exact hideActive_next_congr
      (complete_withActive (setCnt (advance s.stepSize s.cnt) s) a)
  | wait =>
    refine hideActive_sequencerOnly ?_ s a
    cases s.turn.tickDue
    · rfl
    · exact hideActive_next_congr (complete_withActive s a)

theorem performWord_hideActive (w : CommandWord) (s : State) (a : PerChannel Byte) :
    hideActive (performWord w { s with active := a }) = hideActive (performWord w s) := by
  unfold performWord
  cases decode w with
  | error e => rfl
  | ok i => exact exec_hideActive i s a

theorem sequencerTurn_hideActive (reject tickDue : Bool) (s : State) (a : PerChannel Byte) :
    hideActive (sequencerTurn reject tickDue { s with active := a }) =
      hideActive (sequencerTurn reject tickDue s) := by
  by_cases hm : s.mode = .run
  · rw [sequencerTurn_run hm, sequencerTurn_run (by exact hm)]
    exact exec_hideActive (romOp s.ph) (beginTurn ⟨.sequencer, reject, tickDue⟩ s) a
  · rw [sequencerTurn_stuck hm, sequencerTurn_stuck (by exact hm)]
    rfl

theorem performMove_hideActive (m : Move) (s : State) (a : PerChannel Byte) :
    hideActive (performMove m { s with active := a }) = hideActive (performMove m s) := by
  cases m with
  | host w r => exact performWord_hideActive w (beginTurn ⟨.host, r, false⟩ s) a
  | sequencer r => exact sequencerTurn_hideActive r false s a
  | tickDue =>
    by_cases h : s.mode = .run ∧ s.ph = 8
    · simpa [performMove, tickDueEvent, h] using sequencerTurn_hideActive false true s a
    · simp [performMove, tickDueEvent, h, hideActive]
  | pwmBoundary =>
    cases h : s.tcfg <;> simp [performMove, pwmBoundaryEvent, hideActive, h]
  | reset => rfl

/-- Settles O52: taking the move does not read `ACTIVE`, and no move does. -/
theorem activeNotRead : Obligations.ActiveNotRead := by
  intro s a
  have htake : takeMove { s with active := a } =
      ((takeMove s).1, { (takeMove s).2 with active := a }) := by
    unfold takeMove
    cases s.schedule <;> rfl
  unfold step
  rw [htake]
  exact performMove_hideActive _ _ a

end Sys2Proof.Safety
end

section
/-! PROOFS. Register files, command words and records as bytes, and who writes the staged and the
latched duties. -/

namespace Sys2Proof

/-! ### A word read back from its encoding (R72) -/

/-- A format-C word of an opcode and a channel reads back its fields, whatever operation it is. -/
theorem decodeC_formatC (op : BitVec 4) (ch : ChanId) (i : ChanId → Instr) :
    decodeC (op.setWidth 16 <<< 12 ||| chBits ch) i = .ok (i ch) := by
  obtain ⟨-, hch, hlow⟩ := formatC_fields op ch
  exact decodeC_ok.2 ⟨hlow, by rw [hch]⟩

/-- The fields of a format-V word are what it was put together from (R60, R72). -/
theorem formatV_fields (ch : ChanId) (val : Value) :
    opField (encode (.setd ch val)) = 4 ∧ chField (encode (.setd ch val)) = ch ∧
    zField (encode (.setd ch val)) = 0 ∧ valField (encode (.setd ch val)) = val := by
  refine ⟨?_, ?_, ?_, ?_⟩ <;> ext k hk <;>
    simp only [opField, chField, zField, valField, encode, chBits, BitVec.getElem_extractLsb',
      BitVec.getLsbD_or, BitVec.getLsbD_shiftLeft, BitVec.getLsbD_setWidth] <;>
    interval_cases k <;> simp

theorem decode_encode (i : Instr) : decode (encode i) = .ok i := by
  cases i with
  | cfgt => decide
  | cfgc ch =>
    have hop : opField (encode (.cfgc ch)) = 2 := (formatC_fields 2 ch).1
    calc decode (encode (.cfgc ch))
        = decodeC (encode (.cfgc ch)) .cfgc := by simp [decode, hop]
      _ = .ok (.cfgc ch) := decodeC_formatC 2 ch .cfgc
  | init => decide
  | setd ch val =>
    obtain ⟨hop, hch, hz, hval⟩ := formatV_fields ch val
    simp [decode, decodeV, hop, hch, hz, hval]
  | setm ch =>
    have hop : opField (encode (.setm ch)) = 5 := (formatC_fields 5 ch).1
    calc decode (encode (.setm ch))
        = decodeC (encode (.setm ch)) .setm := by simp [decode, hop]
      _ = .ok (.setm ch) := decodeC_formatC 5 ch .setm
  | cmt ch =>
    have hop : opField (encode (.cmt ch)) = 6 := (formatC_fields 6 ch).1
    calc decode (encode (.cmt ch))
        = decodeC (encode (.cmt ch)) .cmt := by simp [decode, hop]
      _ = .ok (.cmt ch) := decodeC_formatC 6 ch .cmt
  | log => decide
  | adv => decide
  | wait => decide

/-! ### Bytes, most significant first (R43) -/

theorem append_bytes_of_word (w : CommandWord) :
    w.extractLsb' 8 8 ++ w.extractLsb' 0 8 = w := by
  rw [BitVec.extractLsb'_append_extractLsb'_eq_extractLsb' (show 8 = 0 + 8 from rfl)]
  exact BitVec.extractLsb'_eq_self

theorem append_bytes_of_record (r : Record) : Machine.recordCounter r ++ Machine.recordRed r ++
    Machine.recordGreen r ++ Machine.recordBlue r = r := by
  unfold Machine.recordCounter Machine.recordRed Machine.recordGreen Machine.recordBlue
  rw [BitVec.extractLsb'_append_extractLsb'_eq_extractLsb' (show 24 = 16 + 8 from rfl),
    BitVec.extractLsb'_append_extractLsb'_eq_extractLsb' (show 16 = 8 + 8 from rfl),
    BitVec.extractLsb'_append_extractLsb'_eq_extractLsb' (show 8 = 0 + 8 from rfl)]
  exact BitVec.extractLsb'_eq_self

/-- Settles O4: the bytes put together again are the word and the record, and a word decodes to the
operation it encodes. -/
theorem byteFormReadsBack : Obligations.ByteFormReadsBack := by
  refine ⟨fun i rest => ?_, fun r rest => ?_, by decide, by decide⟩
  · calc decodeBytes (encodeBytes i ++ rest)
        = some (decode ((encode i).extractLsb' 8 8 ++ (encode i).extractLsb' 0 8), rest) := rfl
      _ = some (.ok i, rest) := by rw [append_bytes_of_word, decode_encode]
  · exact congrArg (fun r => some (r, rest)) (append_bytes_of_record r)

end Sys2Proof

namespace Sys2Proof.Machine

/-! ### Register files (R41) -/

theorem entry_setEntry {α : Type} (f : PerChannel α) (c c' : Channel) (v : α) :
    entry (setEntry f c v) c' = if c' = c then v else entry f c' := by
  split
  · next h => rw [h, entry_setEntry_same]
  · next h => exact entry_setEntry_ne f v h

/-! ### The writers of `LATCH` (R30) -/

/-- Which operation writes `LATCH`, and what it leaves there: `CFGC` a 0, `CMT` what is staged. -/
def LatchWritten (i : Instr) (s t : State) : Prop :=
  t.latch = s.latch ∨ ∃ c : Channel,
    (i = .cfgc c.id ∧ t.latch = setEntry s.latch c 0) ∨
    (i = .cmt c.id ∧ t.latch = setEntry s.latch c (entry s.stage c))

/-- `CMT` copies the staged duty of its channel into the latch, or faults and leaves it (R94). -/
theorem exec_cmt_latchWritten {ch : ChanId} {s t : State} (h : exec (.cmt ch) s = .next t) :
    LatchWritten (.cmt ch) s t := by
  obtain ⟨-, hends⟩ := exec_cmt_next h
  cases hends with
  | done c value hc =>
    rw [channelOf_eq_some_iff] at hc
    exact .inr ⟨c, .inr ⟨by rw [hc], by simp⟩⟩
  | failed cause value _ => exact .inl (by simp [failLatch])

theorem exec_latchWritten {i : Instr} {s t : State} (h : exec i s = .next t) :
    LatchWritten i s t := by
  cases i with
  | cfgt => exact .inl (by rw [(bootFrame s t).1 h])
  | cfgc ch =>
    obtain ⟨-, -, -, c, hc, -, rfl⟩ := exec_cfgc_next.1 h
    rw [channelOf_eq_some_iff] at hc
    exact .inr ⟨c, .inl ⟨by rw [hc], rfl⟩⟩
  | init => exact .inl (by rw [(bootFrame s t).2.2 h])
  | setd ch val => exact .inl (by rw [((latchFrame s t ch).1 val h).1])
  | setm ch => exact .inl (by rw [((latchFrame s t ch).2.1 h).1])
  | cmt ch => exact exec_cmt_latchWritten h
  | log => exact .inl (by rw [(sequencerFrame s t).1 h])
  | adv => exact .inl (by rw [(sequencerFrame s t).2.1 h])
  | wait => exact .inl (by rw [(sequencerFrame s t).2.2 h])

/-- The one entry of `LATCH` an operation can change is that of its channel operand. -/
theorem exec_latch_entry {i : Instr} {s t : State} {c : Channel} (h : exec i s = .next t)
    (hne : entry t.latch c ≠ entry s.latch c) :
    (i = .cfgc c.id ∧ entry t.latch c = 0) ∨
    (i = .cmt c.id ∧ entry t.latch c = entry s.stage c) := by
  have hwrite {c' : Channel} {v : Byte} (ht : t.latch = setEntry s.latch c' v) :
      c' = c ∧ entry t.latch c = v := by
    rw [ht, entry_setEntry] at hne ⊢
    split at hne
    · next heq => exact ⟨heq.symm, if_pos heq⟩
    · exact absurd rfl hne
  rcases exec_latchWritten h with hsame | ⟨c', ⟨hi, ht⟩ | ⟨hi, ht⟩⟩
  · exact absurd (by rw [hsame]) hne
  · obtain ⟨rfl, hv⟩ := hwrite ht
    exact .inl ⟨hi, hv⟩
  · obtain ⟨rfl, hv⟩ := hwrite ht
    exact .inr ⟨hi, hv⟩

/-- The host's operations are performed in `OFF` only (R65). -/
theorem mode_off_of_host_exec_next {i : Instr} {s t : State} (hi : s.turn.issuer = .host)
    (h : exec i s = .next t) : s.mode = .off := by
  cases i with
  | cfgt => exact (exec_cfgt_next.1 h).2.1
  | cfgc ch => exact (exec_cfgc_next.1 h).2.1
  | init => exact (exec_init_next.1 h).2.1
  | setd ch val => exact (exec_setd_next h).2.1
  | setm ch => exact absurd (hi.symm.trans (exec_setm_next h).1) nofun
  | cmt ch =>
    rcases (exec_cmt_next h).1 with ⟨-, hm⟩ | ⟨hseq, -⟩
    · exact hm
    · exact absurd (hi.symm.trans hseq) nofun
  | log => exact absurd (hi.symm.trans (exec_log_next.1 h).1) nofun
  | adv => exact absurd (hi.symm.trans (exec_adv_next.1 h).1) nofun
  | wait => exact absurd (hi.symm.trans (exec_wait_next.1 h).1) nofun

end Sys2Proof.Machine

namespace Sys2Proof.Safety

open Sys2Proof.Machine

/-- Settles O7, by what an entry holds after a write. -/
theorem channelSpace : Obligations.ChannelSpace :=
  ⟨channelOf_id .red, channelOf_id .green, channelOf_id .blue, (channelOf_eq_none_iff 3).2 rfl,
    channelOf_id, entry_setEntry, entry_setEntry⟩

/-- Settles O39: taking the unlisted move and taking it from a schedule that lists it alone leave
the same move and the same state. -/
theorem unlistedMoveIsFree : Obligations.UnlistedMoveIsFree := by
  intro s h
  have htake : takeMove s =
      takeMove { s with schedule := [Config.freeMove s.drawn], drawn := s.drawn + 1 } := by
    simp [takeMove, h]
  simp only [step, htake]

/-- Settles O49: in `RUN` the host port admits nothing, and no event but `RESET` writes a duty that
is staged or latched. -/
theorem singleWriterInRun : Obligations.SingleWriterInRun := by
  intro s t hm h hwritten
  rcases performMove_next h with ⟨w, r, i, -, -, he⟩ | ⟨r, hmove, -, -⟩ | ⟨-, -, -, rfl⟩ |
    ⟨rfl, -⟩ | ⟨-, rfl⟩ | ⟨hmove, -⟩
  · have hoff : s.mode = .off := by simpa using mode_off_of_host_exec_next rfl he
    exact absurd (hm.symm.trans hoff) nofun
  · exact .inr ⟨r, hmove⟩
  · exact absurd hwritten (by simp)
  · exact absurd hwritten (by simp)
  · exact absurd hwritten (by simp)
  · exact .inl hmove

/-- Settles O51: of the operations only `CFGC`, which is the host's, and `CMT` write `LATCH`, and of
the events only `RESET`. -/
theorem commitIsTheBarrier : Obligations.CommitIsTheBarrier := by
  intro s t c h hne
  rcases performMove_next h with ⟨w, r, i, hmove, hd, he⟩ | ⟨r, hmove, -, he⟩ |
    ⟨-, -, -, rfl⟩ | ⟨rfl, -⟩ | ⟨-, rfl⟩ | ⟨hmove, -⟩
  · rcases exec_latch_entry he (by simpa using hne) with ⟨rfl, hzero⟩ | ⟨rfl, hstage⟩
    · exact .inr (.inl ⟨⟨w, r, hmove, hd⟩, hzero⟩)
    · exact .inr (.inr ⟨.inl ⟨w, r, hmove, hd⟩, by simpa using hstage⟩)
  · rcases exec_latch_entry he (by simpa using hne) with ⟨hop, -⟩ | ⟨hop, hstage⟩
    · rw [hop] at he
      exact absurd (exec_cfgc_next.1 he).1 nofun
    · have hrom : decode (rom s.ph) = .ok (.cmt c.id) := by
        simpa using (decode_rom (takeMove s).2.ph).trans (congrArg Except.ok hop)
      exact .inr (.inr ⟨.inr ⟨⟨r, hmove⟩, hrom⟩, by simpa using hstage⟩)
  · exact absurd (by simp) hne
  · exact absurd (by simp) hne
  · exact absurd (by simp) hne
  · exact .inl hmove

end Sys2Proof.Safety
end

section
/-! PROOFS. The encoding: the decoder and the encoder as inverses, the opcode map, the assembler's
lines, the fields of the record and of the status words, and what the host port refuses. -/

namespace Sys2Proof

/-! ### A word put together again from its decoded fields (R60, R72) -/

/-- Where `Z` is 0 a word is its opcode, its channel and its value. -/
theorem word_of_formatV {w : CommandWord} (h : zField w = 0) :
    (opField w).setWidth 16 <<< 12 ||| chBits (chField w) ||| (valField w).setWidth 16 = w := by
  simpa [h] using word_of_fields w

/-- Where `W[9:0]` is 0 a word is its opcode and its channel. -/
theorem word_of_formatC {w : CommandWord} (h : low10 w = 0) :
    (opField w).setWidth 16 <<< 12 ||| chBits (chField w) = w := by
  have hz : zField w = (low10 w).extractLsb' 9 1 :=
    (BitVec.extractLsb'_extractLsb'_of_le (by decide)).symm
  have hval : valField w = (low10 w).extractLsb' 0 9 :=
    (BitVec.extractLsb'_extractLsb'_of_le (by decide)).symm
  rw [h] at hz hval
  simpa [hval] using word_of_formatV hz

/-- Where `W[11:0]` is 0 a word is its opcode. -/
theorem word_of_formatN {w : CommandWord} (h : low12 w = 0) :
    (opField w).setWidth 16 <<< 12 = w := by
  have hch : chField w = (low12 w).extractLsb' 10 2 :=
    (BitVec.extractLsb'_extractLsb'_of_le (by decide)).symm
  have hlow : low10 w = (low12 w).extractLsb' 0 10 :=
    (BitVec.extractLsb'_extractLsb'_of_le (by decide)).symm
  rw [h] at hch hlow
  simpa [hch, chBits] using word_of_formatC hlow

section Formats

variable {w : CommandWord} {op : BitVec 4} {j : Instr} (hop : opField w = op)
include hop

theorem encode_of_decodeN {i : Instr} (hi : encode i = op.setWidth 16 <<< 12)
    (h : decodeN w i = .ok j) : encode j = w := by
  obtain ⟨hlow, rfl⟩ := decodeN_ok.1 h
  rw [hi, ← hop, word_of_formatN hlow]

theorem encode_of_decodeC {i : ChanId → Instr}
    (hi : ∀ ch, encode (i ch) = op.setWidth 16 <<< 12 ||| chBits ch)
    (h : decodeC w i = .ok j) : encode j = w := by
  obtain ⟨hlow, rfl⟩ := decodeC_ok.1 h
  rw [hi, ← hop, word_of_formatC hlow]

theorem encode_of_decodeV {i : ChanId → Value → Instr}
    (hi : ∀ ch val, encode (i ch val) =
      op.setWidth 16 <<< 12 ||| chBits ch ||| val.setWidth 16)
    (h : decodeV w i = .ok j) : encode j = w := by
  obtain ⟨hz, rfl⟩ := decodeV_ok.1 h
  rw [hi, ← hop, word_of_formatV hz]

end Formats

/-- A word that decodes is the encoding of what it decodes to: its format leaves no bit free but
those of its operands. -/
theorem encode_of_decode {w : CommandWord} {i : Instr} (h : decode w = .ok i) : encode i = w := by
  unfold decode at h
  split_ifs at h with h1 h2 h3 h4 h5 h6 h7 h8 h9
  · exact encode_of_decodeN h1 rfl h
  · exact encode_of_decodeC h2 (fun _ => rfl) h
  · exact encode_of_decodeN h3 rfl h
  · exact encode_of_decodeV h4 (fun _ _ => rfl) h
  · exact encode_of_decodeC h5 (fun _ => rfl) h
  · exact encode_of_decodeC h6 (fun _ => rfl) h
  · exact encode_of_decodeN h7 rfl h
  · exact encode_of_decodeN h8 rfl h
  · exact encode_of_decodeN h9 rfl h

theorem decode_eq_ok_iff {w : CommandWord} {i : Instr} : decode w = .ok i ↔ encode i = w :=
  ⟨encode_of_decode, fun h => h ▸ decode_encode i⟩

/-- Settles O2: the fields of an encoded word are its operands, and a word that decodes is put
together again from its fields. -/
theorem decodeEncodeAgree : Obligations.DecodeEncodeAgree :=
  ⟨decode_encode, fun _ _ => encode_of_decode⟩

/-! ### The opcode map (R63) -/

/-- Every operation's word is of the operation's own row. -/
theorem encode_row (i : Instr) : i.row ∈ opcodeTable ∧ i.row.encodes (encode i) := by
  cases i with
  | cfgt => exact Laws.EncodesItsRow.cfgt
  | cfgc ch => exact Laws.EncodesItsRow.cfgc ch
  | init => exact Laws.EncodesItsRow.init
  | setd ch val => exact Laws.EncodesItsRow.setd ch val
  | setm ch => exact Laws.EncodesItsRow.setm ch
  | cmt ch => exact Laws.EncodesItsRow.cmt ch
  | log => exact Laws.EncodesItsRow.log
  | adv => exact Laws.EncodesItsRow.adv
  | wait => exact Laws.EncodesItsRow.wait

/-- A field that a mask keeps whole is read from the masked word. -/
theorem extractLsb'_of_masked {w m p : CommandWord} {start len : Nat} (h : w &&& m = p)
    (hm : m.extractLsb' start len = BitVec.allOnes len) :
    w.extractLsb' start len = p.extractLsb' start len := by
  rw [← h, BitVec.extractLsb'_and, hm, BitVec.and_allOnes]

theorem word_of_masked_formatN {w p : CommandWord} (h : w &&& 0xFFFF = p) : p = w :=
  h.symm.trans BitVec.and_allOnes

/-- A word that is an opcode under the mask `0xF3FF` is that opcode and a channel. -/
theorem word_of_masked_formatC {w : CommandWord} {op : BitVec 4}
    (h : w &&& (0xF3FF : CommandWord) = op.setWidth 16 <<< 12) :
    op.setWidth 16 <<< 12 ||| chBits (chField w) = w := by
  have hpattern : ∀ op : BitVec 4, opField (op.setWidth 16 <<< 12) = op ∧
      low10 (op.setWidth 16 <<< 12) = 0 := by decide
  obtain ⟨hop, hlow⟩ := hpattern op
  have hwop : opField w = op := (extractLsb'_of_masked h rfl).trans hop
  have hwlow : low10 w = 0 := (extractLsb'_of_masked h rfl).trans hlow
  rw [← hwop, word_of_formatC hwlow]

/-- A word that is 0x4 under the mask `0xF200` is that opcode, a channel and a value. -/
theorem word_of_masked_formatV {w : CommandWord} (h : w &&& 0xF200 = 0x4000) :
    encode (.setd (chField w) (valField w)) = w := by
  have hop : opField w = 4 := extractLsb'_of_masked h rfl
  have hz : zField w = 0 := extractLsb'_of_masked h rfl
  have hword := word_of_formatV hz
  rwa [hop] at hword

/-- A word that a row matches is the word of an operation. -/
theorem exists_encode_of_encodes {w : CommandWord} {r : OpcodeRow} (hr : r ∈ opcodeTable)
    (h : r.encodes w) : ∃ i, encode i = w := by
  simp only [opcodeTable, List.mem_cons, List.not_mem_nil, or_false] at hr
  rcases hr with rfl | rfl | rfl | rfl | rfl | rfl | rfl | rfl | rfl
  · exact ⟨.cfgt, word_of_masked_formatN h⟩
  · exact ⟨.cfgc (chField w), word_of_masked_formatC (op := 2) h⟩
  · exact ⟨.init, word_of_masked_formatN h⟩
  · exact ⟨.setd (chField w) (valField w), word_of_masked_formatV h⟩
  · exact ⟨.setm (chField w), word_of_masked_formatC (op := 5) h⟩
  · exact ⟨.cmt (chField w), word_of_masked_formatC (op := 6) h⟩
  · exact ⟨.log, word_of_masked_formatN h⟩
  · exact ⟨.adv, word_of_masked_formatN h⟩
  · exact ⟨.wait, word_of_masked_formatN h⟩

/-- Every mask keeps the opcode, so a word has the opcode of any row that matches it. -/
theorem opField_of_encodes {w : CommandWord} {r : OpcodeRow} (hr : r ∈ opcodeTable)
    (h : r.encodes w) : opField w = opField r.pattern := by
  have hmask : ∀ r ∈ opcodeTable, opField r.mask = BitVec.allOnes 4 := by decide
  exact extractLsb'_of_masked h (hmask r hr)

/-- Settles O3: a row's words are the encodings of its operations, and the rows are told apart by
their opcodes. -/
theorem decodeFollowsOpcodeMap : Obligations.DecodeFollowsOpcodeMap := by
  refine ⟨fun w => ⟨?_, ?_⟩, ?_, ?_⟩
  · rintro ⟨i, h⟩
    rw [decode_eq_ok_iff] at h
    exact ⟨i.row, h ▸ encode_row i⟩
  · rintro ⟨r, hr, h⟩
    exact (exists_encode_of_encodes hr h).imp fun _ => decode_eq_ok_iff.2
  · intro w i h
    rw [decode_eq_ok_iff] at h
    exact h ▸ encode_row i
  · intro w r hr r' hr' h h'
    have hrows : ∀ r ∈ opcodeTable, ∀ r' ∈ opcodeTable,
        opField r.pattern = opField r'.pattern → r = r' := by decide
    exact hrows r hr r' hr' ((opField_of_encodes hr h).symm.trans (opField_of_encodes hr' h'))

/-! ### The assembler (R67, R68) -/

@[simp] theorem isChannel_name (c : Channel) : (Operand.name c).isChannel = true := rfl
@[simp] theorem chanId_name (c : Channel) : (Operand.name c).chanId = c.id := rfl

@[simp] theorem isChannel_numeral_toNat (ch : ChanId) :
    (Operand.numeral ch.toNat).isChannel = true :=
  decide_eq_true (Nat.le_of_lt_succ ch.isLt)

@[simp] theorem chanId_numeral_toNat (ch : ChanId) : (Operand.numeral ch.toNat).chanId = ch :=
  by simp [Operand.chanId]

@[simp] theorem isValue_numeral_toNat (val : Value) :
    (Operand.numeral val.toNat).isValue = true :=
  decide_eq_true (Nat.le_of_lt_succ val.isLt)

@[simp] theorem value_numeral_toNat (val : Value) : (Operand.numeral val.toNat).value = val :=
  by simp [Operand.value]

section Shapes

variable {m : Mnemonic} {os : List Operand}

theorem wellFormed_of_shape_none (hm : m.shape = .none) :
    (SourceLine.mk m os).wellFormed = true ↔ os = [] := by
  cases os <;> simp [SourceLine.wellFormed, SourceLine.error, hm]

theorem wellFormed_of_shape_channel (hm : m.shape = .channel) :
    (SourceLine.mk m os).wellFormed = true ↔ ∃ c, os = [c] ∧ c.isChannel = true := by
  rcases os with _ | ⟨c, _ | ⟨v, rest⟩⟩ <;> simp [SourceLine.wellFormed, SourceLine.error, hm]

theorem wellFormed_of_shape_channelAndValue (hm : m.shape = .channelAndValue) :
    (SourceLine.mk m os).wellFormed = true ↔
      ∃ c v, os = [c, v] ∧ c.isChannel = true ∧ v.isValue = true := by
  rcases os with _ | ⟨c, _ | ⟨v, _ | ⟨x, rest⟩⟩⟩ <;>
    simp [SourceLine.wellFormed, SourceLine.error, hm]
  cases c.isChannel <;> simp

end Shapes

section ChannelLines

variable {o : Operand} (ho : o.isChannel = true)
include ho

theorem assemble_cfgc : (SourceLine.mk .cfgc [o]).assemble = some [.cfgc o.chanId] :=
  if_pos ((wellFormed_of_shape_channel rfl).2 ⟨o, rfl, ho⟩)

theorem assemble_setm : (SourceLine.mk .setm [o]).assemble = some [.setm o.chanId] :=
  if_pos ((wellFormed_of_shape_channel rfl).2 ⟨o, rfl, ho⟩)

theorem assemble_cmt : (SourceLine.mk .cmt [o]).assemble = some [.cmt o.chanId] :=
  if_pos ((wellFormed_of_shape_channel rfl).2 ⟨o, rfl, ho⟩)

theorem assemble_apply : (SourceLine.mk .apply [o]).assemble = some (applyOps o.chanId) :=
  if_pos ((wellFormed_of_shape_channel rfl).2 ⟨o, rfl, ho⟩)

theorem assemble_setd {v : Operand} (hv : v.isValue = true) :
    (SourceLine.mk .setd [o, v]).assemble = some [.setd o.chanId v.value] :=
  if_pos ((wellFormed_of_shape_channelAndValue rfl).2 ⟨o, v, rfl, ho, hv⟩)

end ChannelLines

/-- The line an operation is written as stands for that operation alone. -/
theorem assemble_source (i : Instr) : i.source.assemble = some [i] := by
  cases i with
  | cfgc ch => simpa [Instr.source] using assemble_cfgc (isChannel_numeral_toNat ch)
  | setd ch val =>
    simpa [Instr.source] using
      assemble_setd (isChannel_numeral_toNat ch) (isValue_numeral_toNat val)
  | setm ch => simpa [Instr.source] using assemble_setm (isChannel_numeral_toNat ch)
  | cmt ch => simpa [Instr.source] using assemble_cmt (isChannel_numeral_toNat ch)
  | cfgt | init | log | adv | wait => rfl

/-- A line that is not well formed stands for nothing. -/
theorem assemble_of_not_wellFormed {l : SourceLine} (h : l.wellFormed = false) :
    l.assemble = none := if_neg (by simp [h])

/-- A well-formed line has the operands its mnemonic reads, so it stands for operations. -/
theorem assemble_isSome_of_wellFormed {l : SourceLine} (h : l.wellFormed = true) :
    l.assemble.isSome = true := by
  obtain ⟨m, os⟩ := l
  cases m with
  | cfgt | init | log | adv | wait | tick | boot =>
    obtain rfl := (wellFormed_of_shape_none rfl).1 h
    rfl
  | cfgc =>
    obtain ⟨c, rfl, hc⟩ := (wellFormed_of_shape_channel rfl).1 h
    simp [assemble_cfgc hc]
  | setm =>
    obtain ⟨c, rfl, hc⟩ := (wellFormed_of_shape_channel rfl).1 h
    simp [assemble_setm hc]
  | cmt =>
    obtain ⟨c, rfl, hc⟩ := (wellFormed_of_shape_channel rfl).1 h
    simp [assemble_cmt hc]
  | apply =>
    obtain ⟨c, rfl, hc⟩ := (wellFormed_of_shape_channel rfl).1 h
    simp [assemble_apply hc]
  | setd =>
    obtain ⟨c, v, rfl, hc, hv⟩ := (wellFormed_of_shape_channelAndValue rfl).1 h
    simp [assemble_setd hc hv]

theorem assemble_isSome (l : SourceLine) : l.assemble.isSome = l.wellFormed := by
  cases h : l.wellFormed
  · simp [assemble_of_not_wellFormed h]
  · exact assemble_isSome_of_wellFormed h

/-- `TICK` stands for the words of the micro-program in slot order (R66, R68). -/
theorem encode_tickOps : tickOps.map encode = Machine.slots.map Machine.rom := by
  have hops : tickOps = Machine.slots.map Machine.romOp := rfl
  rw [hops, List.map_map]
  exact List.map_congr_left fun p _ => encode_of_decode (Machine.decode_rom p)

/-- Settles O5, by what each mnemonic's line stands for. -/
theorem assemblerReadsBack : Obligations.AssemblerReadsBack := by
  refine ⟨assemble_source, assemble_isSome, congrArg some encode_tickOps, rfl,
    fun o ho => assemble_apply ho, fun c => ?_⟩
  have hc := isChannel_name c
  exact ⟨assemble_cfgc hc, assemble_setm hc, assemble_cmt hc, assemble_apply hc,
    fun n hn => assemble_setd hc (decide_eq_true hn)⟩

end Sys2Proof

namespace Sys2Proof.Machine

open Sys2Proof.Safety

/-! ### What the host port refuses (R64, R65) -/

/-- A step with a scheduled host word performs that word, issued by the host in the same `MODE`. -/
theorem step_host {s : State} {w : CommandWord} {r : Bool} {rest : List Move}
    (h : s.schedule = .host w r :: rest) :
    ∃ t : State, t.turn.issuer = .host ∧ t.mode = s.mode ∧ step s = performWord w t :=
  ⟨beginTurn ⟨.host, r, false⟩ { s with schedule := rest }, rfl, rfl, step_of_schedule h⟩

theorem performWord_of_reserved {w : CommandWord} (h : ∀ i, decode w ≠ .ok i) (s : State) :
    performWord w s = .refused .reservedWord := by
  cases hd : decode w with
  | error e => simp [performWord, hd]
  | ok i => exact absurd hd (h i)

/-- The host may not issue an operation of the sequencer, whatever the `MODE`. -/
theorem sequencerOnly_of_host {s : State} (h : s.turn.issuer = .host) (r : Result) :
    sequencerOnly s r = .refused .wrongIssuer := by
  simp [sequencerOnly, h]

/-- Outside the host's turn in `OFF` and the sequencer's in `RUN` no operation has a meaning. -/
theorem exec_refused_of_closed {s : State} (hhost : ¬ (s.turn.issuer = .host ∧ s.mode = .off))
    (hseq : ¬ (s.turn.issuer = .sequencer ∧ s.mode = .run)) (i : Instr) :
    IsRefused (exec i s) := by
  cases i with
  | cfgt | cfgc | init | setd => exact hostOnly_refused hhost
  | setm | log | adv | wait => exact sequencerOnly_refused hseq
  | cmt ch =>
    simp only [exec, execCmt, hostOrSequencer]
    cases s.turn.issuer
    · exact hostOnly_refused hhost
    · exact sequencerOnly_refused hseq

/-- Outside `OFF` the host port is closed to every word, reserved words included. -/
theorem performWord_refused_of_closed {s : State} (hi : s.turn.issuer = .host)
    (hm : s.mode ≠ .off) (w : CommandWord) : IsRefused (performWord w s) := by
  cases hd : decode w with
  | error e => simp [performWord, hd, IsRefused]
  | ok i =>
    rw [performWord_of_decode hd]
    exact exec_refused_of_closed (fun h => hm h.2) (by simp [hi]) i

end Sys2Proof.Machine

namespace Sys2Proof.Safety

open Sys2Proof.Machine

/-- Settles O32: a reserved word is refused everywhere, and no operation of the host has a meaning
outside `OFF`. -/
theorem hostPortClosed : Obligations.HostPortClosed := by
  intro s w r rest hsched hm
  obtain ⟨t, hi, hmode, hstep⟩ := step_host hsched
  rw [hstep]
  exact performWord_refused_of_closed hi (hmode ▸ hm) w

/-- Settles O31: no operation is performed for a word that decodes to none. -/
theorem reservedWordRefused : Obligations.ReservedWordRefused := by
  intro s w r rest hsched hreserved
  obtain ⟨t, -, -, hstep⟩ := step_host hsched
  rw [hstep, performWord_of_reserved hreserved]

/-- Settles O33: the issuer of a host word is not the sequencer. -/
theorem sequencerWordsRefusedOnHostPort : Obligations.SequencerWordsRefusedOnHostPort := by
  intro s w r rest i hsched hdec hi
  obtain ⟨t, hhost, -, hstep⟩ := step_host hsched
  rw [hstep, performWord_of_decode hdec]
  rcases hi with rfl | rfl | rfl | ⟨ch, rfl⟩ <;> exact sequencerOnly_of_host hhost _

/-! ### The spec's words and the micro-program (R63, R64, R66) -/

/-- Settles O1: the ten words are encodings, and each reserved word fails its own test. -/
theorem specWordsDecode : Obligations.SpecWordsDecode :=
  ⟨decode_encode .cfgt, decode_encode (.cfgc 1), decode_encode .init, decode_encode (.setd 2 200),
    decode_encode (.setd 2 256), decode_encode (.setm 2), decode_encode (.cmt 1),
    decode_encode .log, decode_encode .adv, decode_encode .wait, by decide⟩

/-- Settles O6: the words by evaluation, their operations by what `ROM` decodes to. -/
theorem romHoldsMicroProgram : Obligations.RomHoldsMicroProgram :=
  ⟨rfl, List.map_congr_left fun p _ => decode_rom p⟩

/-! ### The record of a counter (R69, R70) -/

/-- A word of four parts put together gives each part back at the widths of those below it. -/
theorem extractLsb'_append_four {wa wb wc wd : Nat} (a : BitVec wa) (b : BitVec wb)
    (c : BitVec wc) (d : BitVec wd) :
    (a ++ b ++ c ++ d).extractLsb' (wb + wc + wd) wa = a ∧
    (a ++ b ++ c ++ d).extractLsb' (wc + wd) wb = b ∧
    (a ++ b ++ c ++ d).extractLsb' wd wc = c ∧
    (a ++ b ++ c ++ d).extractLsb' 0 wd = d := by
  simp [BitVec.extractLsb'_append_eq_of_le, BitVec.extractLsb'_append_eq_right]

theorem duty_toNat (c : Channel) (n : Byte) :
    (duty c n).toNat = Config.multiplier c * n.toNat % 256 := by
  simp [duty, multiplyMod, Config.modulus]

/-- Settles O9: a record is its four bytes put together. -/
theorem recordFields : Obligations.RecordFields :=
  fun n => extractLsb'_append_four n (duty .red n) (duty .green n) (duty .blue n)

/-- Settles O59: the line shows the fields of the record, each a multiple of the counter. -/
theorem logLineForm : Obligations.LogLineForm := by
  refine ⟨rfl, fun n => ?_⟩
  obtain ⟨hcounter, hred, hgreen, hblue⟩ := recordFields n
  have hunit : 1 * n.toNat % 256 = n.toNat := by rw [one_mul, Nat.mod_eq_of_lt n.isLt]
  unfold recordLine
  rw [hcounter, hred, hgreen, hblue, duty_toNat, duty_toNat, duty_toNat]
  simp only [Config.multiplier, hunit]

/-! ### The status words (R71) -/

theorem phBits_toNat (p : Slot) : (phBits p).toNat = p.val :=
  Nat.mod_eq_of_lt (p.isLt.trans (by decide))

/-- The fields of `FAULT` while a fault is recorded. -/
theorem faultBits_fields (r : FaultRecord) :
    (faultBits (some r)).extractLsb' 8 1 = 1 ∧
    (faultBits (some r)).extractLsb' 6 2 = causeBits r.cause ∧
    (faultBits (some r)).extractLsb' 4 2 = r.ch ∧
    (faultBits (some r)).extractLsb' 0 4 = slotBits r.slot :=
  extractLsb'_append_four 1 (causeBits r.cause) r.ch (slotBits r.slot)

/-- Settles O60: the fields of `FAULT` are the bits it is put together from. -/
theorem statusWords : Obligations.StatusWords := by
  refine ⟨rfl, rfl, rfl, phBits_toNat, rfl, fun r => ?_, fun _ => rfl⟩
  obtain ⟨hvalid, hcause, hch, hslot⟩ := faultBits_fields r
  refine ⟨?_, ?_, hch, ?_⟩
  · simpa using congrArg (·.getLsbD 0) hvalid
  · rw [hcause]
    cases r.cause <;> rfl
  · rw [hslot]
    cases r.slot with
    | slot p => exact phBits_toNat p
    | hostPort => rfl

end Sys2Proof.Safety
end

section
/-! PROOFS. The boot operations: the next state of each under its precondition, and the refusal in
every other case (R80 to R82, R135). -/

namespace Sys2Proof.Machine

open Sys2Proof.Safety

/-! ### An operation leads to a next state or is refused (log entry 16) -/

theorem hostOnly_refused_or_next {s : State} {r : Result} (h : IsRefused r ∨ ∃ t, r = .next t) :
    IsRefused (hostOnly s r) ∨ ∃ t, hostOnly s r = .next t := by
  by_cases hadm : s.turn.issuer = .host ∧ s.mode = .off
  · rwa [hostOnly_admitted hadm.1 hadm.2]
  · exact .inl (hostOnly_refused hadm)

theorem sequencerOnly_refused_or_next {s : State} {r : Result}
    (h : IsRefused r ∨ ∃ t, r = .next t) :
    IsRefused (sequencerOnly s r) ∨ ∃ t, sequencerOnly s r = .next t := by
  by_cases hadm : s.turn.issuer = .sequencer ∧ s.mode = .run
  · rwa [sequencerOnly_admitted hadm.1 hadm.2]
  · exact .inl (sequencerOnly_refused hadm)

theorem exec_refused_or_next (i : Instr) (s : State) :
    IsRefused (exec i s) ∨ ∃ t, exec i s = .next t := by
  cases i with
  | cfgt =>
    refine hostOnly_refused_or_next ?_
    cases s.tcfg
    · exact .inr ⟨_, rfl⟩
    · exact .inl trivial
  | cfgc ch =>
    refine hostOnly_refused_or_next ?_
    rcases channelOf ch with _ | c
    · exact .inl trivial
    · dsimp only
      cases s.tcfg
      · exact .inl trivial
      · cases entry s.cfg c
        · exact .inr ⟨_, rfl⟩
        · exact .inl trivial
  | init | setd => exact hostOnly_refused_or_next (.inr ⟨_, rfl⟩)
  | setm | log | adv | wait => exact sequencerOnly_refused_or_next (.inr ⟨_, rfl⟩)
  | cmt ch =>
    simp only [exec, execCmt, hostOrSequencer]
    cases s.turn.issuer
    · exact hostOnly_refused_or_next (.inr ⟨_, rfl⟩)
    · exact sequencerOnly_refused_or_next (.inr ⟨_, rfl⟩)

/-- An operation with no next state is refused. -/
theorem exec_refused_of_no_next {i : Instr} {s : State} (h : ∀ t, exec i s ≠ .next t) :
    IsRefused (exec i s) :=
  (exec_refused_or_next i s).resolve_right fun ⟨t, ht⟩ => h t ht

end Sys2Proof.Machine

namespace Sys2Proof.Safety

open Sys2Proof.Machine

/-- Settles O12: the next state is `exec_cfgt_next`'s, and a state that leads to one meets R80's
precondition. -/
theorem cfgtConfiguresTimer : Obligations.CfgtConfiguresTimer := by
  refine ⟨rfl, fun s => ⟨fun ⟨hi, hm, ht⟩ => exec_cfgt_next.2 ⟨hi, hm, ht, rfl⟩, fun hnot => ?_⟩⟩
  refine exec_refused_of_no_next fun t h => hnot ?_
  obtain ⟨hi, hm, ht, -⟩ := exec_cfgt_next.1 h
  exact ⟨hi, hm, ht⟩

/-- Settles O13: the next state is `exec_cfgc_next`'s, and a state that leads to one meets R81's
precondition, so that id 3, which names no channel, leads to none. -/
theorem cfgcConfiguresChannel : Obligations.CfgcConfiguresChannel := by
  refine fun s ch => ⟨rfl, fun c hc hi hm ht he =>
    exec_cfgc_next.2 ⟨hi, hm, ht, c, hc, he, rfl⟩, fun hnot => ?_⟩
  refine exec_refused_of_no_next fun t h => hnot ?_
  obtain ⟨hi, hm, ht, c, hc, he, -⟩ := exec_cfgc_next.1 h
  exact ⟨hi, hm, ht, c, hc, he⟩

/-- Settles O14: the next state is `exec_init_next`'s, which asks nothing of `TCFG`, `CFG` or
`FAULT`. -/
theorem initStartsLoop : Obligations.InitStartsLoop := by
  refine ⟨rfl, fun s => ⟨fun ⟨hi, hm⟩ => exec_init_next.2 ⟨hi, hm, rfl⟩, fun hnot => ?_⟩⟩
  refine exec_refused_of_no_next fun t h => hnot ?_
  obtain ⟨hi, hm, -⟩ := exec_init_next.1 h
  exact ⟨hi, hm⟩

end Sys2Proof.Safety
end

section
/-! PROOFS. The latch operations: the latch check characterised, the duty function and its hardware
forms, the next state of each operation that succeeds, and the boundary (R90 to R95). -/

namespace Sys2Proof.Machine

open Sys2Proof.Safety

/-! ### The latch check, by its answer (R91) -/

theorem latchCheck_ok_iff {req : LatchRequest} {ch : ChanId} {c : Channel} {s : State} :
    latchCheck req ch s = .ok c ↔ channelOf ch = some c ∧ entry s.cfg c = true ∧
      requestOutOfRange req = false ∧ s.turn.reject = false := by
  refine ⟨fun h => ?_, fun ⟨hc, hcfg, hrange, hreject⟩ => latchCheck_ok hc hcfg hrange hreject⟩
  rcases latchCheck_spec req ch s with ⟨c', h', hspec⟩ | ⟨cause, h', -⟩
  · cases h'.symm.trans h
    exact hspec
  · exact absurd (h'.symm.trans h) nofun

theorem latchCheck_error_iff {req : LatchRequest} {ch : ChanId} {cause : Cause} {s : State} :
    latchCheck req ch s = .error cause ↔
      IsFirstCause cause (requestOutOfRange req = true) ch s := by
  refine ⟨fun h => ?_, latchCheck_error⟩
  rcases latchCheck_spec req ch s with ⟨c, h', -⟩ | ⟨cause', h', hfirst⟩
  · exact absurd (h'.symm.trans h) nofun
  · cases h'.symm.trans h
    exact hfirst

theorem outOfRange_eq_true_iff (val : Value) : outOfRange val = true ↔ 255 < val.toNat :=
  decide_eq_true_iff

theorem outOfRange_eq_false_iff (val : Value) : outOfRange val = false ↔ val.toNat ≤ 255 :=
  decide_eq_false_iff_not.trans Nat.not_lt

/-! ### A latch operation that succeeds, by issuer -/

section Succeeds

variable {op : Instr} {req : LatchRequest} {ch : ChanId} {c : Channel}
  {write : Channel → State → State} {s : State}

/-- The host's call is recorded and its write made; `PH` stays (R30). -/
theorem latchOperation_of_host (hturn : ∀ s', (write c s').turn = s'.turn)
    (hi : s.turn.issuer = .host) (hok : latchCheck req ch s = .ok c) :
    latchOperation op req ch write s =
      write c (recordCall ⟨.host, op, requestValue req, none⟩ s) := by
  simp [latchOperation, hok, complete_of_host, hturn, hi]

/-- The sequencer's call is recorded, its write made and `PH` advanced (R100). -/
theorem latchOperation_of_sequencer (hturn : ∀ s', (write c s').turn = s'.turn)
    (hph : ∀ s', (write c s').ph = s'.ph)
    (hi : s.turn.issuer = .sequencer) (hok : latchCheck req ch s = .ok c) :
    latchOperation op req ch write s =
      setPh (nextSlot s.ph) (write c (recordCall ⟨.sequencer, op, requestValue req, none⟩ s)) := by
  simp [latchOperation, hok, complete_of_sequencer, hturn, hph, hi]

end Succeeds

/-! ### The hardware forms of the duty function (R90, R110) -/

theorem doubled_toNat (n : Byte) : (doubled n).toNat = 2 * n.toNat % 256 := by
  have happend : (doubled n).toNat = 2 * (n.toNat % 128) :=
    (BitVec.toNat_append _ _).trans (by simp [Nat.shiftLeft_eq, Nat.mul_comm])
  omega

end Sys2Proof.Machine

namespace Sys2Proof.Safety

open Sys2Proof.Machine

theorem dutyHardware_toNat (c : Channel) (n : Byte) :
    (dutyHardware c n).toNat = Config.multiplier c * n.toNat % 256 := by
  have hlt := n.isLt
  cases c with
  | red => exact doubled_toNat n
  | green =>
    simp only [dutyHardware, Config.multiplier]
    omega
  | blue =>
    simp only [dutyHardware, Config.multiplier, BitVec.toNat_add, doubled_toNat]
    omega

theorem dutyHardware_eq_duty (c : Channel) (n : Byte) : dutyHardware c n = duty c n :=
  BitVec.eq_of_toNat_eq ((dutyHardware_toNat c n).trans (duty_toNat c n).symm)

/-- Settles O21, by what each answer of the latch check says. -/
theorem faultCausesOrdered : Obligations.FaultCausesOrdered := by
  intro ch val s
  refine ⟨fun c => ?_, fun c => ?_, fun cause => ?_, fun cause => ?_⟩
  · rw [latchCheck_ok_iff, requestOutOfRange, outOfRange_eq_false_iff]
  · simp [latchCheck_ok_iff, requestOutOfRange]
  · rw [latchCheck_error_iff, requestOutOfRange, outOfRange_eq_true_iff]
  · simp [latchCheck_error_iff, requestOutOfRange]

/-- Settles O8: every form has the value of the product; the `GREEN` form is the byte itself. -/
theorem dutyIsModularMultiply : Obligations.DutyIsModularMultiply := fun n =>
  ⟨duty_toNat .red n, (dutyHardware_eq_duty .green n).symm, duty_toNat .blue n,
    fun c => dutyHardware_eq_duty c n⟩

/-- Settles O15: the latch check passes, and the low byte of the value is staged. -/
theorem setdStagesValue : Obligations.SetdStagesValue := by
  intro ch val c s hi hm hc hcfg hval hreject
  have hok : latchCheck (.set val) ch s = .ok c :=
    latchCheck_ok hc hcfg ((outOfRange_eq_false_iff val).2 hval) hreject
  rw [exec, execSetd, hostOnly_admitted hi hm, latchOperation_of_host (fun _ => rfl) hi hok]
  rfl

/-- Settles O17: a duty is never out of range, so the latch check passes. -/
theorem setmStagesDuty : Obligations.SetmStagesDuty := by
  intro ch c s hi hm hc hcfg hreject
  have hok : latchCheck (.set (byteValue (duty c s.cnt))) ch s = .ok c :=
    latchCheck_ok hc hcfg (outOfRange_byteValue _) hreject
  rw [exec, execSetm, sequencerOnly_admitted hi hm, hc]
  dsimp only
  rw [latchOperation_of_sequencer (fun _ => rfl) (fun _ => rfl) hi hok]
  rfl

/-- Settles O19: the latch check of a `COMMIT` passes; the issuer decides whether `PH` advances. -/
theorem cmtLatchesStage : Obligations.CmtLatchesStage := by
  intro ch c s hc hcfg hreject
  have hok : latchCheck .commit ch s = .ok c := latchCheck_ok hc hcfg rfl hreject
  refine ⟨fun hi hm => ?_, fun hi hm => ?_⟩
  · refine hostOrSequencer_next.2 ⟨.inr ⟨hi, hm⟩, ?_⟩
    rw [latchOperation_of_sequencer (fun _ => rfl) (fun _ => rfl) hi hok]
    rfl
  · refine hostOrSequencer_next.2 ⟨.inl ⟨hi, hm⟩, ?_⟩
    rw [latchOperation_of_host (fun _ => rfl) hi hok]
    rfl

/-- Settles O36, by what the boundary leaves in each entry of `ACTIVE`. -/
theorem boundaryMakesLatchActive : Obligations.BoundaryMakesLatchActive := by
  intro s rest hschedule
  obtain ⟨a, ha, hentry⟩ := pwmBoundaryEvent_active { s with schedule := rest }
  refine ⟨a, ?_, fun ht => entry_ext fun c => ?_, fun ht c => ?_⟩
  · rw [step_of_schedule hschedule, performMove, ha]
  · simpa [ht] using hentry c
  · simpa [ht] using hentry c

end Sys2Proof.Safety
end

section
/-! PROOFS. The sequencer's own operations: `LOG`, `ADV`, `WAIT`, the closed form of the counter, the
turns that perform a decoded word, and the writers of `PH` (R100 to R107). -/

namespace Sys2Proof.Machine

/-! ### The writers of `PH` (R30, R105) -/

/-- A latch operation leaves `PH`, or is the sequencer's and completes (R30, R100, R123). -/
theorem LatchEnds.ph_cases {op : Instr} {ch : ChanId} {write : Channel → State → State} {s t : State}
    (hturn : ∀ c s', (write c s').turn = s'.turn) (hph : ∀ c s', (write c s').ph = s'.ph)
    (h : LatchEnds op ch write s t) :
    t.ph = s.ph ∨ (s.turn.issuer = .sequencer ∧ t.ph = nextSlot s.ph) := by
  cases h with
  | done c value hc => cases hi : s.turn.issuer <;> simp [hturn, hph, hi]
  | failed cause value _ => exact .inl (by simp [failLatch])

/-- An operation leaves `PH`, or is the sequencer's in `RUN` and completes, or is `INIT`. -/
theorem exec_ph_cases {i : Instr} {s t : State} (h : exec i s = .next t) :
    t.ph = s.ph ∨ (s.mode = .run ∧ t.ph = nextSlot s.ph) ∨ (i = .init ∧ t.ph = 0) := by
  cases i with
  | cfgt =>
    rw [(bootFrame s t).1 h]
    exact .inl rfl
  | cfgc ch =>
    rw [((bootFrame s t).2.1 ch h).1]
    exact .inl rfl
  | init =>
    obtain ⟨-, -, rfl⟩ := exec_init_next.1 h
    exact .inr (.inr ⟨rfl, rfl⟩)
  | setd ch val =>
    obtain ⟨hi, -, hends⟩ := exec_setd_next h
    exact .inl (hends.stage_frame.2.2 hi).1
  | setm ch =>
    obtain ⟨-, hm, hends⟩ := exec_setm_next h
    rcases hends.ph_cases (by simp) (by simp) with hsame | ⟨-, hnext⟩
    · exact .inl hsame
    · exact .inr (.inl ⟨hm, hnext⟩)
  | cmt ch =>
    obtain ⟨⟨hi, -⟩ | ⟨-, hm⟩, hends⟩ := exec_cmt_next h
    · exact .inl (hends.latch_frame.2.2 hi).1
    · rcases hends.ph_cases (by simp) (by simp) with hsame | ⟨-, hnext⟩
      · exact .inl hsame
      · exact .inr (.inl ⟨hm, hnext⟩)
  | log =>
    obtain ⟨-, hm, rfl⟩ := exec_log_next.1 h
    exact .inr (.inl ⟨hm, rfl⟩)
  | adv =>
    obtain ⟨-, hm, rfl⟩ := exec_adv_next.1 h
    exact .inr (.inl ⟨hm, rfl⟩)
  | wait =>
    obtain ⟨-, hm, rfl⟩ := exec_wait_next.1 h
    split
    · exact .inr (.inl ⟨hm, rfl⟩)
    · exact .inl rfl

end Sys2Proof.Machine

namespace Sys2Proof.Safety

open Sys2Proof.Machine

/-! ### The counter in closed form (R107) -/

theorem advance_eq_ite (step cnt : Byte) :
    advance step cnt = if cnt.toNat + step.toNat > 255 then 0 else cnt + step := by
  refine BitVec.eq_of_toNat_eq ?_
  rw [advance_toNat]
  split
  · rfl
  · rw [BitVec.toNat_add_of_lt (by omega)]

/-- The counter of the closed form fits in a byte. -/
theorem counterAt_toNat (step : Byte) (n : Nat) :
    (counterAt step n).toNat = step.toNat * (n % (255 / step.toNat + 1)) := by
  have hmod : n % (255 / step.toNat + 1) ≤ 255 / step.toNat :=
    Nat.le_of_lt_succ (Nat.mod_lt _ (Nat.succ_pos _))
  have hbound : step.toNat * (n % (255 / step.toNat + 1)) ≤ 255 :=
    (Nat.mul_le_mul_left _ hmod).trans (Nat.mul_div_le 255 step.toNat)
  exact Nat.mod_eq_of_lt (Nat.lt_succ_of_le hbound)

theorem counterAt_zero (step : Byte) : counterAt step 0 = 0 := by
  simp [counterAt]

/-- One tick carries the closed form on: it wraps where the position in the period is the last. -/
theorem counterAt_succ {step : Byte} (hstep : step ≠ 0) (n : Nat) :
    counterAt step (n + 1) = advance step (counterAt step n) := by
  have hpos := BitVec.toNat_pos_of_ne_zero hstep
  have hquot : 1 ≤ 255 / step.toNat :=
    (Nat.one_le_div_iff hpos).2 (Nat.le_of_lt_succ step.isLt)
  refine BitVec.eq_of_toNat_eq ?_
  rw [advance_toNat, counterAt_toNat, counterAt_toNat, Nat.add_mod_eq_ite,
    Nat.mod_eq_of_lt (show 1 < 255 / step.toNat + 1 by omega), ← Nat.mul_succ]
  have hwrap (r : Nat) : step.toNat * (r + 1) > 255 ↔ 255 / step.toNat + 1 ≤ r + 1 := by
    rw [gt_iff_lt, Nat.mul_comm, ← Nat.div_lt_iff_lt_mul hpos, Nat.succ_le_iff]
  have hmod : n % (255 / step.toNat + 1) < 255 / step.toNat + 1 := Nat.mod_lt _ (Nat.succ_pos _)
  simp only [hwrap]
  split
  · rw [show n % (255 / step.toNat + 1) + 1 - (255 / step.toNat + 1) = 0 by omega, Nat.mul_zero]
  · rfl

/-- Settles O11, by induction on the number of advances. -/
theorem counterClosedForm : Obligations.CounterClosedForm := by
  refine ⟨fun step hstep n => ⟨?_, counterAt_toNat step n⟩, fun step hstep => ?_, rfl⟩
  · induction n with
    | zero => exact (counterAt_zero step).symm
    | succ n ih => rw [Function.iterate_succ_apply', ih, counterAt_succ hstep]
  · have hpos : 0 < step.toNat := Nat.pos_of_ne_zero fun h => hstep (BitVec.eq_of_toNat_eq h)
    rw [show 256 + step.toNat - 1 = 255 + step.toNat by omega, Nat.add_div_right _ hpos]
    rfl

/-! ### `LOG`, `ADV` and `WAIT` (R101 to R103) -/

/-- Settles O22: the next state is `exec_log_next`'s. -/
theorem logEmitsRecord : Obligations.LogEmitsRecord :=
  ⟨rfl, rfl, fun _ => ⟨fun ⟨hi, hm⟩ => exec_log_next.2 ⟨hi, hm, rfl⟩, sequencerOnly_refused⟩⟩

/-- Settles O23: the next state is `exec_adv_next`'s, with the advance written out. -/
theorem advAdvancesCounter : Obligations.AdvAdvancesCounter := by
  refine ⟨rfl, rfl, fun s => ⟨fun ⟨hi, hm⟩ => ?_, sequencerOnly_refused⟩⟩
  rw [exec_adv_next, ← advance_eq_ite]
  exact ⟨hi, hm, rfl⟩

/-- Settles O24: the next state is `exec_wait_next`'s in both cases of `tick_due`. -/
theorem waitEndsOnTickDue : Obligations.WaitEndsOnTickDue := fun _ hi hm =>
  ⟨fun hdue => exec_wait_next.2 ⟨hi, hm, (if_pos hdue).symm⟩,
    fun hdue => exec_wait_next.2 ⟨hi, hm, by simp [hdue]⟩⟩

/-! ### Turns (R65, R100) -/

/-- Settles O30: each turn performs its word, the host's or `ROM`'s at `PH`. -/
theorem stepRunsDecoded : Obligations.StepRunsDecoded := by
  refine fun s rest r i => ⟨fun w hschedule hdec => ?_, fun hschedule hm hdec => ?_⟩
  · rw [step_of_schedule hschedule]
    exact performWord_of_decode hdec _
  · obtain rfl : romOp s.ph = i := Except.ok.inj ((decode_rom s.ph).symm.trans hdec)
    rw [step_of_schedule hschedule]
    exact sequencerTurn_run (by exact hm) r false

/-- Settles O34: outside `RUN` the turn is `sequencerTurn_stuck`'s. -/
theorem sequencerStuckOutsideRun : Obligations.SequencerStuckOutsideRun := by
  intro s r rest hschedule hm
  rw [step_of_schedule hschedule]
  exact sequencerTurn_stuck (by exact hm) r false

/-! ### The order of the slots (R105) -/

/-- Settles O48: what an operation does to `PH`, and that `INIT` is the host's. -/
theorem phaseOrder : Obligations.PhaseOrder := by
  intro s t h
  rcases performMove_next h with ⟨w, r, i, hmove, hd, he⟩ | ⟨r, -, hm, he⟩ | ⟨-, hm, hp, rfl⟩ |
    ⟨rfl, -⟩ | ⟨-, rfl⟩ | ⟨hmove, rfl⟩
  · rcases exec_ph_cases he with hsame | ⟨hm, hnext⟩ | ⟨rfl, hzero⟩
    · exact .inl (by simpa using hsame)
    · exact .inr (.inl ⟨by simpa using hm, by simpa using hnext⟩)
    · exact .inr (.inr ⟨hzero, .inr ⟨w, r, hmove, hd⟩⟩)
  · rcases exec_ph_cases he with hsame | ⟨-, hnext⟩ | ⟨hop, -⟩
    · exact .inl (by simpa using hsame)
    · exact .inr (.inl ⟨by simpa using hm, by simpa using hnext⟩)
    · rw [hop] at he
      exact absurd (exec_init_next.1 he).1 (by simp)
  · rw [takeMove_mode] at hm
    rw [takeMove_ph] at hp
    exact .inr (.inl ⟨hm, by simp [hp]⟩)
  · exact .inl (takeMove_ph s)
  · exact .inl (by simp)
  · exact .inr (.inr ⟨rfl, .inl hmove⟩)

end Sys2Proof.Safety
end

section
/-! PROOFS. The tick: the state at each slot of a fault-free tick, the micro-operation that carries it
to the next, and runs of one tick and of several (R104 to R108). -/

namespace Sys2Proof.Machine

/-! ### Runs -/

theorem run_of_step {s t : State} (h : step s = .next t) (n : Nat) :
    core.run (n + 1) s = core.run n t := by
  have hcore : core.step s = .next t := h
  simp only [Host.Core.run, hcore]

/-- A run that reaches a state goes on as the run from there. -/
theorem run_add {m : Nat} {s t : State} (h : core.run m s = .next t) (n : Nat) :
    core.run (m + n) s = core.run n t := by
  induction m generalizing s with
  | zero =>
    cases h
    rw [Nat.zero_add]
  | succ m ih =>
    simp only [Host.Core.run] at h
    split at h
    · next s' hstep => rw [Nat.succ_add, run_of_step hstep, ih h]
    · cases h
    · cases h

/-! ### The event `tick_due` (R103, R127) -/

theorem tickDueEvent_of_wait {s : State} (hm : s.mode = .run) (hph : s.ph = 8) :
    tickDueEvent s = .next (setPh 0 (beginTurn ⟨.sequencer, false, true⟩ s)) := by
  rw [tickDueEvent, if_pos ⟨hm, hph⟩, sequencerTurn_run hm, hph]
  exact exec_wait_next.2 ⟨rfl, hm, by simp [hph]⟩

theorem tickDueEvent_dropped {s : State} (h : s.ph ≠ 8) : tickDueEvent s = .next s :=
  if_neg fun hwait => h hwait.2

end Sys2Proof.Machine

namespace Sys2Proof.Safety

open Sys2Proof.Machine

/-! ### The state at each slot of a fault-free tick (R124) -/

/-- The state at slot `p` of a fault-free tick begun in `s`: the slots before `p` have written what
they write, and nothing from `p` on has. What boundaries leave in `ACTIVE`, the turn and the schedule
are arguments. -/
def inTick (s : State) (p : Slot) (active : PerChannel Byte) (turn : Turn) (rest : List Move) :
    State :=
  { s with
    cnt      := if 7 < p.val then advance s.stepSize s.cnt else s.cnt
    ph       := p
    stage    := ⟨if 0 < p.val then duty .red s.cnt else s.stage.red,
                 if 2 < p.val then duty .green s.cnt else s.stage.green,
                 if 4 < p.val then duty .blue s.cnt else s.stage.blue⟩
    latch    := ⟨if 1 < p.val then duty .red s.cnt else s.latch.red,
                 if 3 < p.val then duty .green s.cnt else s.latch.green,
                 if 5 < p.val then duty .blue s.cnt else s.latch.blue⟩
    active   := active
    logq     := if 6 < p.val then s.logq ++ [recordOf s.cnt] else s.logq
    calls    := s.calls ++ (tickCalls s.cnt).take p.val
    turn     := turn
    schedule := rest }

section InTick

variable {s : State} {p : Slot} {a : PerChannel Byte} {tn : Turn} {rest : List Move}

theorem inTick_start (hph : s.ph = 0) (hschedule : s.schedule = rest) :
    inTick s 0 s.active s.turn rest = s := by
  cases s
  simp_all [inTick]

theorem tick_of_inTick (hph : s.ph = 0) : setPh 0 (inTick s 8 a ⟨.sequencer, false, true⟩ rest) =
    tick a rest s := by
  simp [inTick, tick, setPh, hph, advance_eq_ite, dutyTriple, tickCalls]

/-- `SETM` of the slot's channel stages its duty (R93). -/
theorem exec_setm_inTick {c : Channel} (hm : s.mode = .run) (hslot : p.val = 2 * c.id.toNat)
    (hcfg : entry s.cfg c = true) :
    exec (.setm c.id) (inTick s p a ⟨.sequencer, false, false⟩ rest) =
      .next (inTick s (nextSlot p) a ⟨.sequencer, false, false⟩ rest) := by
  refine (setmStagesDuty c.id c (inTick s p a _ rest) rfl hm (channelOf_id c) hcfg rfl).trans
    (congrArg _ ?_)
  cases c <;> simp [inTick, setEntry, nextSlot_val_of_lt, hslot, tickCalls, Channel.id]

/-- `CMT` of the slot's channel latches the duty the slot before has staged (R94). -/
theorem exec_cmt_inTick {c : Channel} (hm : s.mode = .run) (hslot : p.val = 2 * c.id.toNat + 1)
    (hcfg : entry s.cfg c = true) :
    exec (.cmt c.id) (inTick s p a ⟨.sequencer, false, false⟩ rest) =
      .next (inTick s (nextSlot p) a ⟨.sequencer, false, false⟩ rest) := by
  refine ((cmtLatchesStage c.id c (inTick s p a _ rest) (channelOf_id c) hcfg rfl).1 rfl hm).trans
    (congrArg _ ?_)
  cases c <;> simp [inTick, setEntry, entry, nextSlot_val_of_lt, hslot, tickCalls, Channel.id]

/-- The operation of a slot before the wait carries the tick to the next slot where the channels up to
the slot's are configured (R100, R104). -/
theorem exec_romOp_inTick (hm : s.mode = .run) (hp : p.val < 8)
    (hcfg : ∀ c : Channel, 2 * c.id.toNat ≤ p.val → entry s.cfg c = true) :
    exec (romOp p) (inTick s p a ⟨.sequencer, false, false⟩ rest) =
      .next (inTick s (nextSlot p) a ⟨.sequencer, false, false⟩ rest) := by
  match p with
  | 0 => exact exec_setm_inTick (c := .red) hm rfl (hcfg .red (by decide))
  | 1 => exact exec_cmt_inTick (c := .red) hm rfl (hcfg .red (by decide))
  | 2 => exact exec_setm_inTick (c := .green) hm rfl (hcfg .green (by decide))
  | 3 => exact exec_cmt_inTick (c := .green) hm rfl (hcfg .green (by decide))
  | 4 => exact exec_setm_inTick (c := .blue) hm rfl (hcfg .blue (by decide))
  | 5 => exact exec_cmt_inTick (c := .blue) hm rfl (hcfg .blue (by decide))
  | 6 => exact exec_log_next.2 ⟨rfl, hm, rfl⟩
  | 7 => exact exec_adv_next.2 ⟨rfl, hm, rfl⟩
  | 8 => exact absurd hp (by decide)

/-! ### One move within a tick (R50) -/

theorem step_sequencer_inTick (hm : s.mode = .run) (hp : p.val < 8)
    (hcfg : ∀ c : Channel, 2 * c.id.toNat ≤ p.val → entry s.cfg c = true) :
    step (inTick s p a tn (.sequencer false :: rest)) =
      .next (inTick s (nextSlot p) a ⟨.sequencer, false, false⟩ rest) := by
  rw [step_of_schedule rfl, performMove, sequencerTurn_run (by exact hm)]
  exact exec_romOp_inTick hm hp hcfg

/-- A turn before `tick_due` is held in the wait (R103). -/
theorem step_held_inTick (hm : s.mode = .run) (r : Bool) :
    step (inTick s 8 a tn (.sequencer r :: rest)) =
      .next (inTick s 8 a ⟨.sequencer, r, false⟩ rest) := by
  rw [step_of_schedule rfl, performMove, sequencerTurn_run (by exact hm)]
  exact exec_wait_next.2 ⟨rfl, hm, rfl⟩

/-- Before the wait `tick_due` is dropped (R127). -/
theorem step_dropped_inTick (hp : p.val < 8) :
    step (inTick s p a tn (.tickDue :: rest)) = .next (inTick s p a tn rest) := by
  rw [step_of_schedule rfl]
  exact tickDueEvent_dropped fun h : p = 8 => absurd hp (by simp [h])

/-- In the wait `tick_due` ends the tick in the state `TICK` gives (R103, R104). -/
theorem step_tickDue_inTick (hm : s.mode = .run) (hph : s.ph = 0) :
    step (inTick s 8 a tn (.tickDue :: rest)) = .next (tick a rest s) := by
  rw [step_of_schedule rfl, ← tick_of_inTick hph]
  exact tickDueEvent_of_wait hm rfl

/-- A boundary within a tick writes `ACTIVE` only, from the channels' latches (R95). -/
theorem step_boundary_inTick (s : State) (p : Slot) (a : PerChannel Byte) (tn : Turn)
    (rest : List Move) : ∃ a', step (inTick s p a tn (.pwmBoundary :: rest)) =
        .next (inTick s p a' tn rest) ∧
      ∀ c, entry a' c = if s.tcfg = true ∧ entry s.cfg c = true
        then entry (inTick s p a tn rest).latch c else entry a c := by
  obtain ⟨a', ha', hentry⟩ := pwmBoundaryEvent_active (inTick s p a tn rest)
  refine ⟨a', ?_, hentry⟩
  rw [step_of_schedule rfl]
  exact congrArg _ ha'

end InTick

/-! ### Runs within a tick -/

/-- The work of a tick, with boundaries and dropped `tick_due` events anywhere, runs from slot to slot
where the channels it comes to are configured (R104). -/
theorem run_quietWork {s : State} {k : Nat} {work : List Move} (hwork : quietWork k work = true)
    (hm : s.mode = .run) {p q : Slot} (hq : p.val + k = q.val)
    (hcfg : ∀ c : Channel, 2 * c.id.toNat < q.val → entry s.cfg c = true)
    (a : PerChannel Byte) (tn : Turn) (rest : List Move) : ∃ a' tn',
      core.run work.length (inTick s p a tn (work ++ rest)) = .next (inTick s q a' tn' rest) := by
  have hlast := q.isLt
  fun_induction quietWork k work generalizing p a tn with
  | case1 =>
    obtain rfl : p = q := Fin.ext hq
    exact ⟨a, tn, rfl⟩
  | case2 k ms ih =>
    have hp : p.val < 8 := by omega
    obtain ⟨a', tn', hrun⟩ := ih hwork (p := nextSlot p)
      (by rw [nextSlot_val_of_lt hp]; omega) a ⟨.sequencer, false, false⟩
    exact ⟨a', tn', (run_of_step (step_sequencer_inTick hm hp
      fun c hc => hcfg c (by omega)) _).trans hrun⟩
  | case3 k ms ih =>
    obtain ⟨a', tn', hrun⟩ := ih hwork hq a tn
    exact ⟨a', tn', (run_of_step (step_dropped_inTick (by omega)) _).trans hrun⟩
  | case4 k ms ih =>
    obtain ⟨a₁, hstep, -⟩ := step_boundary_inTick s p a tn (ms ++ rest)
    obtain ⟨a', tn', hrun⟩ := ih hwork hq a₁ tn
    exact ⟨a', tn', (run_of_step hstep _).trans hrun⟩
  | case5 => exact absurd hwork (by simp)

theorem TickStart.configured {s : State} (hs : TickStart s) (c : Channel) : entry s.cfg c = true := by
  cases c <;> simp [hs.channels, entry]

/-- Before the event comes the wait holds its slot; from the first boundary in it on the triple of the
tick is in effect (R51). -/
theorem run_wait {s : State} (hs : TickStart s) {wait : List Move}
    (hwait : wait.all idleMove = true) (a : PerChannel Byte) (tn : Turn) (rest : List Move) :
    ∃ a' tn', core.run wait.length (inTick s 8 a tn (wait ++ rest)) =
        .next (inTick s 8 a' tn' rest) ∧
      (a = dutyTriple s.cnt ∨ wait.contains .pwmBoundary = true → a' = dutyTriple s.cnt) := by
  have hm := hs.running
  induction wait generalizing a tn with
  | nil => exact ⟨a, tn, rfl, by simp⟩
  | cons m ms ih =>
    obtain ⟨hmove, hrest⟩ : idleMove m = true ∧ ms.all idleMove = true := by simpa using hwait
    cases m with
    | sequencer r =>
      obtain ⟨a', tn', hrun, hactive⟩ := ih hrest a ⟨.sequencer, r, false⟩
      exact ⟨a', tn', (run_of_step (step_held_inTick hm r) _).trans hrun,
        fun h => hactive (by simpa using h)⟩
    | pwmBoundary =>
      obtain ⟨a₁, hstep, hentry⟩ := step_boundary_inTick s 8 a tn (ms ++ rest)
      obtain ⟨a', tn', hrun, hactive⟩ := ih hrest a₁ tn
      refine ⟨a', tn', (run_of_step hstep _).trans hrun, fun _ => hactive (.inl ?_)⟩
      exact entry_ext fun c => (hentry c).trans (if_pos ⟨hs.timer, hs.configured c⟩)
    | host | tickDue | reset => exact absurd hmove (by simp [idleMove])

/-- Settles O54: the work runs from slot 0 to the wait, the wait holds it, and `tick_due` ends it. -/
theorem microStepsRefineTick : Obligations.MicroStepsRefineTick := by
  intro s m rest hs hquiet hschedule
  obtain ⟨hwork, hwait⟩ : quietWork 8 m.work = true ∧ m.wait.all idleMove = true := by
    simpa [TickMoves.quiet] using hquiet
  have hm := hs.running
  have hph := hs.slot_zero
  obtain ⟨a₁, tn₁, hrun₁⟩ := run_quietWork hwork hm (p := 0) (q := 8) rfl (fun c _ => hs.configured c)
    s.active s.turn (m.wait ++ .tickDue :: rest)
  obtain ⟨a₂, tn₂, hrun₂, hactive⟩ := run_wait hs hwait a₁ tn₁ (.tickDue :: rest)
  refine ⟨a₂, ?_, fun h => hactive (.inr h)⟩
  rw [inTick_start hph (by simp [hschedule, TickMoves.moves])] at hrun₁
  calc core.run m.moves.length s
      = core.run (m.work.length + (m.wait.length + 1)) s := by
        simp [TickMoves.moves]
    _ = core.run (m.wait.length + 1) (inTick s 8 a₁ tn₁ (m.wait ++ .tickDue :: rest)) :=
        run_add hrun₁ _
    _ = core.run 1 (inTick s 8 a₂ tn₂ (.tickDue :: rest)) := run_add hrun₂ 1
    _ = .next (tick a₂ rest s) := run_of_step (step_tickDue_inTick hm hph) 0

/-! ### Several ticks (R107) -/

theorem tickStart_tick {s : State} (hs : TickStart s) (a : PerChannel Byte) (rest : List Move) :
    TickStart (tick a rest s) := ⟨hs.running, hs.slot_zero, hs.timer, hs.channels⟩

/-- A tick at the counter of the closed form leaves the next one. -/
theorem tick_cnt_of_counterAt {s : State} {n : Nat} (hstep : s.stepSize ≠ 0)
    (hcnt : s.cnt = counterAt s.stepSize n) (a : PerChannel Byte) (rest : List Move) :
    (tick a rest s).cnt = counterAt s.stepSize (n + 1) := by
  rw [counterAt_succ hstep, ← hcnt, advance_eq_ite]
  rfl

theorem tickSchedule_append_singleton (ms : List TickMoves) (m : TickMoves) :
    tickSchedule (ms ++ [m]) = tickSchedule ms ++ m.moves := by
  simp [tickSchedule]

/-- Settles O55, by induction on the ticks, the last one first: each is a `TICK` at the counter of the
closed form. -/
theorem ticksGenerateClosedForm : Obligations.TicksGenerateClosedForm := by
  intro s ms rest hs hcnt hquiet hschedule hstep
  induction ms using List.reverseRecOn generalizing rest with
  | nil =>
    exact ⟨s, rfl, hs, hschedule, by simp [hcnt, counterAt_zero], by simp, rfl, rfl, nofun⟩
  | append_singleton ms m ih =>
    rw [tickSchedule_append_singleton] at hschedule ⊢
    obtain ⟨t, hrun, ht, hsched, htcnt, hlogq, hfault, hsize, -⟩ :=
      ih (m.moves ++ rest) (fun m' hm' => hquiet m' (by simp [hm'])) (by simp [hschedule])
    obtain ⟨a, htick, -⟩ := microStepsRefineTick t m rest ht (hquiet m (by simp)) hsched
    rw [← hsize] at hstep htcnt hlogq ⊢
    refine ⟨tick a rest t, ?_, tickStart_tick ht a rest, rfl, ?_, ?_, hfault, rfl, ?_⟩
    · rw [List.length_append, run_add hrun, htick]
    · rw [tick_cnt_of_counterAt hstep htcnt, List.length_append, List.length_singleton]
    · simp [tick, hlogq, htcnt, List.range_succ]
    · intro n hn
      obtain rfl : ms.length = n := by simpa using hn
      rw [← htcnt]
      exact ⟨rfl, rfl⟩

end Sys2Proof.Safety
end

section
/-! PROOFS. Refusal and `HardwareFault`: which operations are refused, the next state of each latch
operation that faults, how `MODE` changes, what `HALT` leaves, the event `tick_due`, and the precision
of a fault within a tick (R120 to R137). -/

namespace Sys2Proof.Machine

open Sys2Proof.Safety

/-! ### Admission (R65, R135) -/

theorem admitted_of_exec_next {i : Instr} {s t : State} (h : exec i s = .next t) :
    Admitted i s := by
  cases i with
  | cfgt =>
    obtain ⟨hi, hm, ht, -⟩ := exec_cfgt_next.1 h
    exact ⟨hi, hm, ht⟩
  | cfgc ch =>
    obtain ⟨hi, hm, ht, c, hc, he, -⟩ := exec_cfgc_next.1 h
    exact ⟨hi, hm, ht, c, hc, he⟩
  | init =>
    obtain ⟨hi, hm, -⟩ := exec_init_next.1 h
    exact ⟨hi, hm⟩
  | setd ch val =>
    obtain ⟨hi, hm, -⟩ := exec_setd_next h
    exact ⟨hi, hm⟩
  | setm ch =>
    obtain ⟨hi, hm, -⟩ := exec_setm_next h
    exact ⟨hi, hm⟩
  | cmt ch => exact (exec_cmt_next h).1
  | log =>
    obtain ⟨hi, hm, -⟩ := exec_log_next.1 h
    exact ⟨hi, hm⟩
  | adv =>
    obtain ⟨hi, hm, -⟩ := exec_adv_next.1 h
    exact ⟨hi, hm⟩
  | wait =>
    obtain ⟨hi, hm, -⟩ := exec_wait_next.1 h
    exact ⟨hi, hm⟩

theorem exec_next_of_admitted {i : Instr} {s : State} (h : Admitted i s) :
    ∃ t, exec i s = .next t := by
  cases i with
  | cfgt =>
    obtain ⟨hi, hm, ht⟩ := h
    exact ⟨_, exec_cfgt_next.2 ⟨hi, hm, ht, rfl⟩⟩
  | cfgc ch =>
    obtain ⟨hi, hm, ht, c, hc, he⟩ := h
    exact ⟨_, exec_cfgc_next.2 ⟨hi, hm, ht, c, hc, he, rfl⟩⟩
  | init | setd => exact ⟨_, hostOnly_admitted h.1 h.2⟩
  | setm | log | adv | wait => exact ⟨_, sequencerOnly_admitted h.1 h.2⟩
  | cmt ch => exact ⟨_, hostOrSequencer_next.2 ⟨h, rfl⟩⟩

/-! ### A latch operation that faults (R91, R123, R136) -/

theorem latchOperation_of_firstCause {op : Instr} {req : LatchRequest} {ch : ChanId} {cause : Cause}
    {write : Channel → State → State} {s : State}
    (h : IsFirstCause cause (requestOutOfRange req = true) ch s) :
    latchOperation op req ch write s = failLatch op (requestValue req) ch cause s := by
  simp [latchOperation, latchCheck_error h]

/-- An id that names no channel is `UNCONFIGURED` before anything else (R122). -/
theorem unconfigured_of_no_channel {cause : Cause} {bad : Prop} {ch : ChanId} {s : State}
    (hc : channelOf ch = none) (h : IsFirstCause cause bad ch s) : cause = .unconfigured := by
  have hno {P : Channel → Prop} : ¬ ∃ c, channelOf ch = some c ∧ P c := by simp [hc]
  cases cause with
  | unconfigured => rfl
  | range => exact absurd h.1 hno
  | reject => exact absurd h.1 hno

/-! ### The writers of `MODE` (R120, R128) -/

/-- The sequencer is halted by a fault, which stands in `FAULT`, at the slot it came to (R123). -/
structure HaltsByFault (s t : State) : Prop where
  issuer : s.turn.issuer = .sequencer
  running : s.mode = .run
  halted : t.mode = .halt
  fault : t.fault ≠ none
  ph : t.ph = s.ph

/-- A latch operation leaves `MODE`, or is the sequencer's and halts it by its fault. -/
theorem LatchEnds.mode_cases {op : Instr} {ch : ChanId} {write : Channel → State → State}
    {s t : State} (hmode : ∀ c s', (write c s').mode = s'.mode)
    (hrun : s.turn.issuer = .sequencer → s.mode = .run) (h : LatchEnds op ch write s t) :
    t.mode = s.mode ∨ HaltsByFault s t := by
  cases h with
  | done c value hc => exact .inl (by simp [hmode])
  | failed cause value _ =>
    cases hi : s.turn.issuer with
    | host => exact .inl (by simp [failLatch, hi])
    | sequencer =>
      exact .inr ⟨hi, hrun hi, by simp [failLatch, hi], by simp [failLatch], by simp [failLatch]⟩

/-- An operation leaves `MODE`, or is `INIT`, or is a latch operation that halts the sequencer. -/
theorem exec_mode_cases {i : Instr} {s t : State} (h : exec i s = .next t) :
    t.mode = s.mode ∨ (i = .init ∧ s.mode = .off ∧ t.mode = .run) ∨
      (IsLatchOperation i ∧ HaltsByFault s t) := by
  cases i with
  | cfgt =>
    rw [(bootFrame s t).1 h]
    exact .inl rfl
  | cfgc ch =>
    rw [((bootFrame s t).2.1 ch h).1]
    exact .inl rfl
  | init =>
    obtain ⟨-, hm, rfl⟩ := exec_init_next.1 h
    exact .inr (.inl ⟨rfl, hm, rfl⟩)
  | setd ch val =>
    rw [((latchFrame s t ch).1 val h).1]
    exact .inl rfl
  | setm ch =>
    obtain ⟨-, hm, hends⟩ := exec_setm_next h
    exact (hends.mode_cases (by simp) fun _ => hm).imp_right fun hhalts => .inr ⟨trivial, hhalts⟩
  | cmt ch =>
    obtain ⟨hadmitted, hends⟩ := exec_cmt_next h
    have hrun (hi : s.turn.issuer = .sequencer) : s.mode = .run := by simpa [hi] using hadmitted
    exact (hends.mode_cases (by simp) hrun).imp_right fun hhalts => .inr ⟨trivial, hhalts⟩
  | log =>
    rw [(sequencerFrame s t).1 h]
    exact .inl rfl
  | adv =>
    rw [(sequencerFrame s t).2.1 h]
    exact .inl rfl
  | wait =>
    rw [(sequencerFrame s t).2.2 h]
    exact .inl rfl

/-! ### The latch operations of the micro-program (R66) -/

/-- Slots 0 to 5 hold the latch operations of the three channels in order, two slots for each. -/
theorem romOp_of_le_five {p : Slot} (hp : p.val ≤ 5) : ∃ c : Channel,
    c.id = BitVec.ofNat 2 (p.val / 2) ∧ (romOp p = .setm c.id ∨ romOp p = .cmt c.id) := by
  match p with
  | 0 => exact ⟨.red, rfl, .inl rfl⟩
  | 1 => exact ⟨.red, rfl, .inr rfl⟩
  | 2 => exact ⟨.green, rfl, .inl rfl⟩
  | 3 => exact ⟨.green, rfl, .inr rfl⟩
  | 4 => exact ⟨.blue, rfl, .inl rfl⟩
  | 5 => exact ⟨.blue, rfl, .inr rfl⟩
  | 6 | 7 | 8 => exact absurd hp (by decide)

end Sys2Proof.Machine

namespace Sys2Proof.Safety

open Sys2Proof.Machine

/-- Settles O25: a next state is led to exactly where the operation is admitted, and an operation with
no next state is refused. -/
theorem refusedUnlessAdmitted : Obligations.RefusedUnlessAdmitted := by
  intro i s
  refine ⟨⟨fun hrefused hadm => ?_, fun hnot => ?_⟩, exec_next_of_admitted⟩
  · obtain ⟨t, ht⟩ := exec_next_of_admitted hadm
    simp [ht, IsRefused] at hrefused
  · exact exec_refused_of_no_next fun t ht => hnot (admitted_of_exec_next ht)

/-! ### The faults of `SETD`, `SETM` and `CMT` (R123, R136) -/

/-- Settles O16: the latch check answers the cause, and a failed call of the host writes `FAULT` and
the record of calls. -/
theorem setdFaultTaken : Obligations.SetdFaultTaken := by
  intro ch val cause s hi hm hcause
  have hfirst : IsFirstCause cause (requestOutOfRange (.set val) = true) ch s := by
    rwa [requestOutOfRange, outOfRange_eq_true_iff]
  rw [exec, execSetd, hostOnly_admitted hi hm, latchOperation_of_firstCause hfirst,
    failLatch_of_host hi, requestValue]

/-- Settles O18: id 3 fails before a duty is evaluated; the duty of a channel is never out of range,
so the latch check answers the cause. -/
theorem setmFaultTaken : Obligations.SetmFaultTaken := by
  intro ch cause s hi hm hcause
  rw [exec, execSetm, sequencerOnly_admitted hi hm]
  rcases hc : channelOf ch with _ | c
  · obtain rfl := unconfigured_of_no_channel hc hcause
    exact congrArg _ (failLatch_of_sequencer hi ..)
  · have hfirst : IsFirstCause cause
        (requestOutOfRange (.set (byteValue (duty c s.cnt))) = true) ch s := by
      simpa [requestOutOfRange] using hcause
    exact congrArg _ ((latchOperation_of_firstCause hfirst).trans (failLatch_of_sequencer hi ..))

/-- Settles O20: the latch check of a `COMMIT` answers the cause; the issuer decides whether `MODE`
changes. -/
theorem cmtFaultTaken : Obligations.CmtFaultTaken := by
  intro ch cause s hcause
  have hfirst : IsFirstCause cause (requestOutOfRange .commit = true) ch s := by
    simpa [requestOutOfRange] using hcause
  refine ⟨fun hi hm => ?_, fun hi hm => ?_⟩
  · refine hostOrSequencer_next.2 ⟨.inr ⟨hi, hm⟩, ?_⟩
    rw [latchOperation_of_firstCause hfirst, failLatch_of_sequencer hi, requestValue]
  · refine hostOrSequencer_next.2 ⟨.inl ⟨hi, hm⟩, ?_⟩
    rw [latchOperation_of_firstCause hfirst, failLatch_of_host hi, requestValue]

/-! ### Who faults, and how `MODE` changes (R120, R125, R128) -/

/-- Settles O29: an operation that writes `FAULT` takes a fault, and one that halts does too. -/
theorem onlyLatchOperationsFault : Obligations.OnlyLatchOperationsFault := by
  rintro i s t h (hfault | ⟨hhalt, hnot⟩)
  · rcases exec_fault_cases h with ⟨hkept, -⟩ | ⟨cause, htaken⟩
    · exact absurd hkept hfault
    · exact htaken.latchOperation
  · rcases exec_mode_cases h with hsame | ⟨-, -, hrun⟩ | ⟨hop, -⟩
    · exact absurd (hsame.symm.trans hhalt) hnot
    · exact absurd (hrun.symm.trans hhalt) nofun
    · exact hop

/-- Settles O43: of the operations `INIT`, which is the host's, and the sequencer's faults change
`MODE`, and of the events only `RESET`. -/
theorem modeTransitions : Obligations.ModeTransitions := by
  intro s t h
  rcases performMove_next h with ⟨w, r, i, hmove, hd, he⟩ | ⟨r, hmove, -, he⟩ |
    ⟨-, -, -, rfl⟩ | ⟨rfl, -⟩ | ⟨-, rfl⟩ | ⟨hmove, rfl⟩
  · rcases exec_mode_cases he with hsame | ⟨rfl, hoff, hrun⟩ | ⟨-, hhalts⟩
    · exact .inl (by simpa using hsame)
    · exact .inr (.inr (.inl ⟨⟨w, r, hmove, hd⟩, by simpa using hoff, hrun⟩))
    · exact absurd hhalts.issuer nofun
  · rcases exec_mode_cases he with hsame | ⟨hop, -⟩ | ⟨-, hhalts⟩
    · exact .inl (by simpa using hsame)
    · rw [hop] at he
      exact absurd (exec_init_next.1 he).1 nofun
    · exact .inr (.inr (.inr ⟨⟨r, hmove⟩, by simpa using hhalts.running, hhalts.halted,
        hhalts.fault, by simpa using hhalts.ph⟩))
  · exact .inl (by simp)
  · exact .inl (by simp)
  · exact .inl (by simp)
  · exact .inr (.inl ⟨hmove, rfl⟩)

/-- Settles O44: in `HALT` no operation is performed, so what is left beside `RESET` is a move that
changes nothing or a boundary. -/
theorem haltLeftOnlyByReset : Obligations.HaltLeftOnlyByReset := by
  intro s t hhalt h hmove
  have hnorun : (takeMove s).2.mode ≠ .run := by simp [hhalt]
  rcases performMove_next h with ⟨w, r, i, -, -, he⟩ | ⟨r, -, hm, -⟩ | ⟨-, hm, -⟩ |
    ⟨rfl, -⟩ | ⟨-, rfl⟩ | ⟨hreset, -⟩
  · exact absurd (by simpa using hhalt) (mode_ne_halt_of_exec_next he)
  · exact absurd hm hnorun
  · exact absurd hm hnorun
  · rw [takeMove_active]
    exact takeMove_state s
  · obtain ⟨a, ht, -⟩ := pwmBoundaryEvent_active (takeMove s).2
    rw [ht, takeMove_state s]
  · exact absurd hreset hmove

/-! ### The event `tick_due` (R127) -/

/-- Settles O35: in the wait the event is `tickDueEvent_of_wait`'s; elsewhere it is dropped. -/
theorem tickDueOnlyEndsWait : Obligations.TickDueOnlyEndsWait := by
  intro s rest hschedule
  rw [step_of_schedule hschedule]
  exact ⟨fun ⟨hm, hph⟩ => tickDueEvent_of_wait hm hph, fun hnot => if_neg hnot⟩

/-! ### A fault within a tick (R124) -/

/-- A rejected latch operation of the sequencer halts it and records the slot's channel; the duty
registers, the counter and the log stay. -/
theorem exec_romOp_rejected {s : State} {p : Slot} (hi : s.turn.issuer = .sequencer)
    (hm : s.mode = .run) (hreject : s.turn.reject = true) (hcfg : ∀ c, entry s.cfg c = true)
    (hp : p.val ≤ 5) : ∃ calls, exec (romOp p) s = .next { s with
      mode  := .halt
      fault := firstFault s.fault ⟨.reject, BitVec.ofNat 2 (p.val / 2), .slot s.ph⟩
      calls := calls } := by
  obtain ⟨c, hid, hop⟩ := romOp_of_le_five hp
  have hcause : IsFirstCause .reject False c.id s :=
    ⟨⟨c, channelOf_id c, hcfg c⟩, not_false, hreject⟩
  rw [← hid]
  rcases hop with hop | hop <;> rw [hop]
  · exact ⟨_, setmFaultTaken c.id .reject s hi hm hcause⟩
  · exact ⟨_, (cmtFaultTaken c.id .reject s hcause).1 hi hm⟩

/-- A turn within a tick performs the operation of the slot (R100). -/
theorem step_turn_inTick {s : State} {p : Slot} {a : PerChannel Byte} {tn : Turn} {rest : List Move}
    (hm : s.mode = .run) (r : Bool) : step (inTick s p a tn (.sequencer r :: rest)) =
      exec (romOp p) (inTick s p a ⟨.sequencer, r, false⟩ rest) := by
  rw [step_of_schedule rfl, performMove, sequencerTurn_run (by exact hm)]
  rfl

/-- Before the wait, boundaries and dropped `tick_due` events leave the tick where it is (R50, R127). -/
theorem run_passing {s : State} {gap : List Move} (hgap : gap.all passingMove = true) {p : Slot}
    (hp : p.val < 8) (a : PerChannel Byte) (tn : Turn) (rest : List Move) : ∃ a',
      core.run gap.length (inTick s p a tn (gap ++ rest)) = .next (inTick s p a' tn rest) := by
  induction gap generalizing a with
  | nil => exact ⟨a, rfl⟩
  | cons m ms ih =>
    obtain ⟨hmove, hrest⟩ : passingMove m = true ∧ ms.all passingMove = true := by simpa using hgap
    cases m with
    | pwmBoundary =>
      obtain ⟨a₁, hstep, -⟩ := step_boundary_inTick s p a tn (ms ++ rest)
      obtain ⟨a', hrun⟩ := ih hrest a₁
      exact ⟨a', (run_of_step hstep _).trans hrun⟩
    | tickDue =>
      obtain ⟨a', hrun⟩ := ih hrest a
      exact ⟨a', (run_of_step (step_dropped_inTick hp) _).trans hrun⟩
    | host | sequencer | reset => exact absurd hmove (by simp [passingMove])

/-- The fault-free slots of a tick and the moves that pass before the next turn. -/
theorem run_work_gap {s : State} {work gap : List Move} {p : Slot} (hm : s.mode = .run)
    (hph : s.ph = 0) (hwork : quietWork p.val work = true) (hgap : gap.all passingMove = true)
    (hp : p.val < 8) (hcfg : ∀ c : Channel, 2 * c.id.toNat < p.val → entry s.cfg c = true)
    {rest : List Move} (hschedule : s.schedule = work ++ (gap ++ rest)) : ∃ a tn,
      core.run (work.length + gap.length) s = .next (inTick s p a tn rest) := by
  obtain ⟨a₁, tn, hrun₁⟩ := run_quietWork hwork hm (p := 0) (by simp) hcfg s.active s.turn
    (gap ++ rest)
  obtain ⟨a, hrun₂⟩ := run_passing (s := s) hgap hp a₁ tn rest
  rw [inTick_start hph hschedule] at hrun₁
  exact ⟨a, tn, (run_add hrun₁ _).trans hrun₂⟩

/-- Settles O56: the work and the gap lead to the state of the tick at the slot, and the rejected
operation there adds the fault and the halt only. -/
theorem faultIsPrecise : Obligations.FaultIsPrecise := by
  rintro s _ work gap rest p hs hk rfl hwork hgap hschedule
  have hm := hs.running
  obtain ⟨a, tn, hrun⟩ := run_work_gap hm hs.slot_zero hwork hgap (by omega)
    (fun c _ => hs.configured c) (by simpa using hschedule)
  obtain ⟨calls, hfault⟩ := exec_romOp_rejected (s := inTick s p a ⟨.sequencer, true, false⟩ rest)
    rfl hm rfl hs.configured hk
  have hstep := (step_turn_inTick (a := a) (tn := tn) hm true).trans hfault
  refine ⟨_, (run_add hrun 1).trans (run_of_step hstep 0), rfl, rfl, ?_, ?_, rfl, rfl, rfl, ?_⟩
  · exact if_neg (by omega)
  · exact if_neg (by omega)
  · simp [inTick, show ¬ 5 < p.val by omega]

end Sys2Proof.Safety
end

section
/-! PROOFS. Reset, the boot sequence, the tick of a block with a channel left unconfigured, and what
`ACTIVE` shows during a tick (R140 to R146). -/

namespace Sys2Proof.Machine

/-- Before slot 6 the even slots hold the `SETM`s of the channels in order (R66). -/
theorem romOp_of_setm_slot {p : Slot} {c : Channel} (hp : p.val = 2 * c.id.toNat) :
    romOp p = .setm c.id := by
  revert p
  cases c <;> decide

end Sys2Proof.Machine

namespace Sys2Proof.Safety

open Sys2Proof.Machine

/-! ### Reset and boot (R140, R142) -/

/-- Settles O37: the scheduled move is performed as the event `RESET`. -/
theorem resetClearsControl : Obligations.ResetClearsControl :=
  ⟨rfl, fun _ _ hschedule => step_of_schedule hschedule⟩

/-- A run whose first move is a host word ends as the run from where the word's operation leads
(R65). -/
theorem run_of_hostWord {s t : State} {w : CommandWord} {i : Instr} {r : Bool} {rest : List Move}
    {n : Nat} {result : Result} (hschedule : s.schedule = .host w r :: rest)
    (hdec : decode w = .ok i)
    (hexec : exec i { s with schedule := rest, turn := ⟨.host, r, false⟩ } = .next t)
    (hrun : core.run n t = result) : core.run (n + 1) s = result :=
  (run_of_step (((stepRunsDecoded s rest r i).1 w hschedule hdec).trans hexec) n).trans hrun

/-- Settles O53, word by word: `CFGT` enables the three `CFGC`s, each of which finds its channel
unconfigured, and `INIT` starts the loop. -/
theorem bootSequence : Obligations.BootSequence := by
  intro s rejects r0 r4 rest hm ht hcfg hschedule
  have hoff (c : Channel) : entry s.cfg c = false := by cases c <;> simp [hcfg, entry]
  refine run_of_hostWord hschedule (decode_encode .cfgt) (exec_cfgt_next.2 ⟨rfl, hm, ht, rfl⟩) ?_
  refine run_of_hostWord rfl (decode_encode (.cfgc 0))
    (exec_cfgc_next.2 ⟨rfl, hm, rfl, .red, rfl, hoff .red, rfl⟩) ?_
  refine run_of_hostWord rfl (decode_encode (.cfgc 1))
    (exec_cfgc_next.2 ⟨rfl, hm, rfl, .green, rfl, hoff .green, rfl⟩) ?_
  refine run_of_hostWord rfl (decode_encode (.cfgc 2))
    (exec_cfgc_next.2 ⟨rfl, hm, rfl, .blue, rfl, hoff .blue, rfl⟩) ?_
  exact run_of_hostWord rfl (decode_encode .init) (exec_init_next.2 ⟨rfl, hm, rfl⟩) rfl

/-! ### The duty registers within a tick, by channel -/

section InTick

variable (s : State) (p : Slot) (a : PerChannel Byte) (tn : Turn) (rest : List Move)

/-- The duty of a channel is staged past the slot of its `SETM`. -/
theorem entry_inTick_stage (c : Channel) : entry (inTick s p a tn rest).stage c =
    if 2 * c.id.toNat < p.val then duty c s.cnt else entry s.stage c := by
  cases c <;> rfl

/-- The duty of a channel is latched past the slot of its `CMT`. -/
theorem entry_inTick_latch (c : Channel) : entry (inTick s p a tn rest).latch c =
    if 2 * c.id.toNat + 1 < p.val then duty c s.cnt else entry s.latch c := by
  cases c <;> rfl

end InTick

/-! ### A channel left unconfigured (R143) -/

/-- The `SETM` of an unconfigured channel halts the sequencer whatever the draw; the duty registers,
the counter and the log stay. -/
theorem exec_setm_unconfigured {s : State} {c : Channel} (hi : s.turn.issuer = .sequencer)
    (hm : s.mode = .run) (hcfg : entry s.cfg c = false) :
    ∃ calls, exec (.setm c.id) s = .next { s with
      mode  := .halt
      fault := firstFault s.fault ⟨.unconfigured, c.id, .slot s.ph⟩
      calls := calls } := by
  have hcause : IsFirstCause .unconfigured False c.id s := by
    intro c' hc'
    obtain rfl : c = c' := by simpa using hc'
    exact hcfg
  exact ⟨_, setmFaultTaken c.id .unconfigured s hi hm hcause⟩

/-- Settles O57: the work and the gap lead to the state of the tick at the `SETM` of the channel, whose
fault adds the record and the halt only. -/
theorem missingChannelHaltsFirstTick : Obligations.MissingChannelHaltsFirstTick := by
  intro s c work gap rest r p hm hph hcfg hbefore hp hwork hgap hschedule
  have hlast := channel_id_lt c
  obtain ⟨a, tn, hrun⟩ := run_work_gap hm hph hwork hgap (by omega)
    (fun c' hc' => hbefore c' (by omega)) (by simpa using hschedule)
  obtain ⟨calls, hfault⟩ := exec_setm_unconfigured
    (s := inTick s p a ⟨.sequencer, r, false⟩ rest) rfl hm hcfg
  rw [← romOp_of_setm_slot hp] at hfault
  have hstep := (step_turn_inTick (a := a) (tn := tn) hm r).trans hfault
  refine ⟨_, (run_add hrun 1).trans (run_of_step hstep 0), rfl, rfl, ?_, ?_, rfl,
    fun c' => ?_, fun c' => ?_⟩
  · exact if_neg (by omega)
  · exact if_neg (by omega)
  · exact (entry_inTick_stage s p a ⟨.sequencer, r, false⟩ rest c').trans (if_congr (by omega) rfl rfl)
  · exact (entry_inTick_latch s p a ⟨.sequencer, r, false⟩ rest c').trans (if_congr (by omega) rfl rfl)

/-! ### What `ACTIVE` shows during a tick (R146) -/

theorem entry_mixedTriple (old new : PerChannel Byte) (k : Nat) (c : Channel) :
    entry (mixedTriple old new k) c = if c.id.toNat < k then entry new c else entry old c := by
  cases c <;> rfl

/-- How many channels have latched the triple of the tick at slot `p`. -/
def latchedBefore (p : Slot) : Nat := min 3 (p.val / 2)

theorem latchedBefore_le_three (p : Slot) : latchedBefore p ≤ 3 := Nat.min_le_left ..

theorem latchedBefore_le_nextSlot {p : Slot} (hp : p.val < 8) :
    latchedBefore p ≤ latchedBefore (nextSlot p) := by
  simp only [latchedBefore, nextSlot_val_of_lt hp]
  omega

/-- The latch fills with the triple of the tick channel by channel. -/
theorem inTick_latch (s : State) (p : Slot) (a : PerChannel Byte) (tn : Turn) (rest : List Move) :
    (inTick s p a tn rest).latch = mixedTriple s.latch (dutyTriple s.cnt) (latchedBefore p) := by
  refine entry_ext fun c => ?_
  have hc := channel_id_lt c
  rw [entry_inTick_latch, entry_mixedTriple, entry_dutyTriple]
  exact if_congr (by rw [latchedBefore]; omega) rfl rfl

/-- With every channel configured a boundary shows what is latched. -/
theorem step_boundary_inTick_mixed {s : State} (hs : TickStart s) (p : Slot) (a : PerChannel Byte)
    (tn : Turn) (rest : List Move) : step (inTick s p a tn (.pwmBoundary :: rest)) =
      .next (inTick s p (mixedTriple s.latch (dutyTriple s.cnt) (latchedBefore p)) tn rest) := by
  obtain ⟨a', hstep, hentry⟩ := step_boundary_inTick s p a tn rest
  rw [hstep, ← inTick_latch s p a tn rest]
  exact congrArg (fun b => Host.Outcome.next (inTick s p b tn rest))
    (entry_ext fun c => (hentry c).trans (if_pos ⟨hs.timer, hs.configured c⟩))

/-- In each of the first `n` steps from `s`, `ACTIVE` shows the new triple in its first channels, in
`k` of them at least and never in fewer than before, and the old one in the others. -/
def ShowsMixed (old new : PerChannel Byte) (k n : Nat) (s : State) : Prop :=
  ∃ p : Nat → Nat, Monotone p ∧ (∀ j, k ≤ p j ∧ p j ≤ 3) ∧
    ∀ j ≤ n, ∃ t, core.run j s = .next t ∧ t.active = mixedTriple old new (p j)

section ShowsMixed

variable {old new : PerChannel Byte} {k l n : Nat} {s t : State}

theorem showsMixed_zero (hk : k ≤ 3) (hactive : s.active = mixedTriple old new k) :
    ShowsMixed old new k 0 s := by
  refine ⟨fun _ => k, monotone_const, fun _ => ⟨le_rfl, hk⟩, fun j hj => ⟨s, ?_, hactive⟩⟩
  rw [Nat.le_zero.1 hj]
  rfl

/-- A step before a run that shows no fewer new channels. -/
theorem showsMixed_succ (hactive : s.active = mixedTriple old new k) (hstep : step s = .next t)
    (hkl : k ≤ l) (h : ShowsMixed old new l n t) : ShowsMixed old new k (n + 1) s := by
  obtain ⟨p, hmono, hbound, hshow⟩ := h
  refine ⟨fun j => Nat.casesOn j k p, monotone_nat_of_le_succ ?_, ?_, ?_⟩
  · rintro (_ | j)
    · exact hkl.trans (hbound 0).1
    · exact hmono (Nat.le_succ j)
  · rintro (_ | j)
    · exact ⟨le_rfl, hkl.trans ((hbound 0).1.trans (hbound 0).2)⟩
    · exact ⟨hkl.trans (hbound j).1, (hbound j).2⟩
  · rintro (_ | j) hj
    · exact ⟨s, rfl, hactive⟩
    · obtain ⟨t', hrun, ht'⟩ := hshow j (Nat.le_of_succ_le_succ hj)
      exact ⟨t', (run_of_step hstep j).trans hrun, ht'⟩

end ShowsMixed

section Showing

variable {s : State} {k : Nat} {rest : List Move}

/-- From the wait on every boundary shows the whole triple; `tick_due` leaves what
is shown. -/
theorem showsMixed_wait (hs : TickStart s) {wait : List Move} (hwait : wait.all idleMove = true)
    (hk : k ≤ 3) (tn : Turn) :
    ShowsMixed s.latch (dutyTriple s.cnt) k (wait.length + 1)
      (inTick s 8 (mixedTriple s.latch (dutyTriple s.cnt) k) tn (wait ++ .tickDue :: rest)) := by
  have hm := hs.running
  induction wait generalizing k tn with
  | nil =>
    exact showsMixed_succ rfl (step_tickDue_inTick hm hs.slot_zero) le_rfl (showsMixed_zero hk rfl)
  | cons m ms ih =>
    obtain ⟨hmove, hrest⟩ : idleMove m = true ∧ ms.all idleMove = true := by simpa using hwait
    cases m with
    | sequencer r => exact showsMixed_succ rfl (step_held_inTick hm r) le_rfl (ih hrest hk _)
    | pwmBoundary =>
      exact showsMixed_succ rfl (step_boundary_inTick_mixed hs 8 _ tn _) hk
        (ih hrest (latchedBefore_le_three 8) tn)
    | host | tickDue | reset => exact absurd hmove (by simp [idleMove])

/-- Before the wait a boundary shows the channels latched so far, which every later slot keeps. -/
theorem showsMixed_work (hs : TickStart s) {n : Nat} {work wait : List Move}
    (hwork : quietWork n work = true) (hwait : wait.all idleMove = true) {p : Slot}
    (hp : p.val + n = 8) (hk : k ≤ latchedBefore p) (tn : Turn) :
    ShowsMixed s.latch (dutyTriple s.cnt) k (work.length + (wait.length + 1))
      (inTick s p (mixedTriple s.latch (dutyTriple s.cnt) k) tn
        (work ++ (wait ++ .tickDue :: rest))) := by
  have hm := hs.running
  fun_induction quietWork n work generalizing p k tn with
  | case1 =>
    obtain rfl : p = 8 := Fin.ext hp
    rw [List.length_nil, Nat.zero_add]
    exact showsMixed_wait hs hwait hk tn
  | case2 n ms ih =>
    have hlt : p.val < 8 := by omega
    rw [List.length_cons, Nat.succ_add]
    exact showsMixed_succ rfl (step_sequencer_inTick hm hlt fun c _ => hs.configured c) le_rfl
      (ih hwork (by rw [nextSlot_val_of_lt hlt]; omega) (hk.trans (latchedBefore_le_nextSlot hlt)) _)
  | case3 n ms ih =>
    rw [List.length_cons, Nat.succ_add]
    exact showsMixed_succ rfl (step_dropped_inTick (by omega)) le_rfl (ih hwork hp hk tn)
  | case4 n ms ih =>
    rw [List.length_cons, Nat.succ_add]
    exact showsMixed_succ rfl (step_boundary_inTick_mixed hs p _ tn _) hk (ih hwork hp le_rfl tn)
  | case5 => exact absurd hwork (by simp)

end Showing

/-- Settles O58: the tick starts showing no new channel, and its work and wait go on from there. -/
theorem activeShowsMixedTriples : Obligations.ActiveShowsMixedTriples := by
  rintro s m rest _ hs hquiet hschedule rfl hactive
  obtain ⟨hwork, hwait⟩ : quietWork 8 m.work = true ∧ m.wait.all idleMove = true := by
    simpa [TickMoves.quiet] using hquiet
  have hshows := showsMixed_work (rest := rest) (k := 0) hs hwork hwait (p := 0) rfl (Nat.zero_le _)
    s.turn
  have hstart : inTick s 0 (mixedTriple s.latch (dutyTriple s.cnt) 0) s.turn
      (m.work ++ (m.wait ++ .tickDue :: rest)) = s := by
    rw [show mixedTriple s.latch (dutyTriple s.cnt) 0 = s.active from hactive.symm]
    exact inTick_start hs.slot_zero (by simp [hschedule, TickMoves.moves])
  have hlength : m.moves.length = m.work.length + (m.wait.length + 1) := by simp [TickMoves.moves]
  rw [hstart, ← hlength] at hshows
  obtain ⟨p, hmono, hbound, hshow⟩ := hshows
  exact ⟨p, hmono, fun j => (hbound j).2, hshow⟩

end Sys2Proof.Safety
end
